-- ==== Sys2Proof/Word.lean ====
section
/-! DEFINITION. The word types of the core: a 32-bit register (00_scope.md R6, XLEN), a byte and a byte sequence (R8). -/

namespace Sys2Proof

/-- A 32-bit value: a register, a command word (00_scope.md R6, 10_state.md R21 to R28). -/
abbrev Word := BitVec 32

/-- An unsigned 8-bit value (00_scope.md R8). -/
abbrev Byte := BitVec 8

/-- A byte sequence in stream order, first byte first (00_scope.md R8). -/
abbrev Bytes := List Byte

end Sys2Proof
end

