-- ==== Sys2Proof/Config.lean ====
section
/-! DEFINITION. The parameters of 00_scope.md R6 and the free values of the model. -/

namespace Sys2Proof

/-- The OPEN parameters of 00_scope.md R6 on which a rule depends. -/
structure Config where
  /-- MAX_DIM, the largest legal width and height (60_exceptions.md R207). -/
  maxDim : Nat
  /-- SRC_SIZE, the number of SRC bytes the platform backs (20_memory.md R57). -/
  srcSize : Nat
  deriving DecidableEq, Repr

/-- The range the spec allows each parameter (00_scope.md R6, 92_eei_decisions.md D16, D32). -/
abbrev Config.legal (c : Config) : Prop :=
  1 ≤ c.maxDim ∧ c.maxDim ≤ 4294967295 ∧ 1 ≤ c.srcSize ∧ c.srcSize ≤ 4294967296

/-- The machine's parameters: the default values of 00_scope.md R6 (log 10). -/
def Config.machine : Config := { maxDim := 4294967295, srcSize := 4294967296 }

/-- OUT_MAX, the largest length of OUT: fixed (00_scope.md R6, 92_eei_decisions.md D13). -/
def Config.outMax : Nat := 4294967295

/-- The size of the SRC address space: 2^32 bytes (10_state.md R35). -/
def Config.srcSpace : Nat := 4294967296

/-- FREE VALUE: the `draw`-th unspecified value of `width` bits (log 5, log 6). DESIGN CHOICE (log 26):
it depends on the core's own counter, not on which core of a platform it is; so do the two below. -/
opaque Config.freeValue : (width draw : Nat) → BitVec width

/-- FREE VALUE: the SRC byte at `address` that the host has not written since the `resets`-th
reset (70_reset_and_hazards.md R232, log 4). -/
opaque Config.unwrittenSrc : (resets address : Nat) → Byte

/-- FREE VALUE: what a read of OUT beyond its end returns (20_memory.md R51), the same at every
read until the next reset or completion (R56, log 7). -/
opaque Config.outBeyondEnd : (resets completions index : Nat) → Byte

end Sys2Proof
end

