-- ==== Sys2Proof/Syntax.lean ====
section
/-! DEFINITION. The command set PNGCORE-1 (30_encoding.md R84) and the steps a host can take
(20_memory.md R51, 60_exceptions.md R222, 30_encoding.md R87 and R88). -/

namespace Sys2Proof

/-- The seven commands of 30_encoding.md R84. A command word carries no operand (R81, R82). -/
inductive Instr where
  | crc32
  | adler32
  | pack
  | chunk
  | assemble
  | filter
  | encode
  deriving DecidableEq, Repr

/-- The eight host-visible registers (10_state.md R20, register map). -/
inductive Reg where
  | cmd
  | status
  | width
  | height
  | srcLen
  | typeTag
  | result
  | outLen
  deriving DecidableEq, Repr

/-- One host access (60_exceptions.md R222): what is accessed, where, and how many bits wide.
A REG access names a byte offset, an SRC access a byte address, an OUT access an index. -/
inductive Access where
  | readReg  (offset bits : Nat)
  | writeReg (offset bits : Nat) (value : Word)
  | readSrc  (address bits : Nat)
  | writeSrc (address bits : Nat) (value : Byte)
  | readOut  (index bits : Nat)
  | reset
  deriving DecidableEq, Repr

/-- One step of a host program (30_encoding.md R87, R88).
`fetch` and `move` are the two pseudo-steps whose expansion depends on a value read;
`reload k` is the second half of `move`: the host writes its last `k` readings to SRC (log 15). -/
inductive HostStep where
  | access (a : Access)
  | wait
  | fetch
  | move
  | reload (count : Nat)
  deriving DecidableEq, Repr

/-- The two agents that take steps (60_exceptions.md R200). -/
inductive Agent where
  | host
  | core
  deriving DecidableEq, Repr

end Sys2Proof
end

