-- ==== Sys2Proof/WellFormed.lean ====
section
/-! DEFINITION. Which host accesses, host programs and command words have the form the spec gives
them. An instruction itself has no operand, so every `Instr` is well formed. -/

namespace Sys2Proof

/-- A command carries no register number and no immediate (30_encoding.md R81): nothing to check. -/
def Instr.wellFormed : Instr → Bool
  | .crc32 | .adler32 | .pack | .chunk | .assemble | .filter | .encode => true

/-- 20_memory.md R55: a REG access is 32 bits wide at a multiple of 4; an SRC access and an OUT
read are one byte wide. Reset has no form to check. -/
def Access.wellFormed : Access → Bool
  | .readReg offset bits    => bits == 32 && offset % 4 == 0
  | .writeReg offset bits _ => bits == 32 && offset % 4 == 0
  | .readSrc _ bits         => bits == 8
  | .writeSrc _ bits _      => bits == 8
  | .readOut _ bits         => bits == 8
  | .reset                  => true

/-- A host step is well formed when the access it makes is. -/
def HostStep.wellFormed : HostStep → Bool
  | .access a => a.wellFormed
  | .wait | .fetch | .move | .reload _ => true

/-- Format C of 30_encoding.md R81 and the opcodes of R84: bits 31:8 zero, opcode 1 to 7. -/
def commandWordWellFormed (w : Word) : Bool :=
  w.extractLsb' 8 24 == 0 && (1 ≤ (w.extractLsb' 0 8).toNat && (w.extractLsb' 0 8).toNat ≤ 7)

end Sys2Proof
end

