-- ==== Sys2Proof/Decode.lean ====
section
/-! DEFINITION. Decoding a command word (30_encoding.md R80 to R85), total on every word and
rejecting by name; and the encoder. -/

namespace Sys2Proof

/-- Why a command word is illegal (30_encoding.md R85). -/
inductive IllegalWord where
  /-- Bits 31:8 are not zero (R81). -/
  | zeroFieldNotZero
  /-- The opcode is 0x00 or one of 0x08 to 0xFF. -/
  | reservedOpcode
  deriving DecidableEq, Repr

/-- What a command word decodes to. -/
inductive Decoded where
  | command (i : Instr)
  | illegal (why : IllegalWord)
  deriving DecidableEq, Repr

/-- The `opcode` field, bits 7:0 (30_encoding.md R81). -/
def opcodeField (w : Word) : BitVec 8 := w.extractLsb' 0 8

/-- The `zero` field, bits 31:8 (30_encoding.md R81). -/
def zeroField (w : Word) : BitVec 24 := w.extractLsb' 8 24

/-- The opcode map of 30_encoding.md R84. -/
def decodeOpcode (op : BitVec 8) : Decoded :=
  if op = 0x01#8 then .command .crc32
  else if op = 0x02#8 then .command .adler32
  else if op = 0x03#8 then .command .pack
  else if op = 0x04#8 then .command .chunk
  else if op = 0x05#8 then .command .assemble
  else if op = 0x06#8 then .command .filter
  else if op = 0x07#8 then .command .encode
  else .illegal .reservedOpcode

/-- The decoder: 60_exceptions.md R205 tests bits 31:8 first, then the opcode. -/
def decode (w : Word) : Decoded :=
  if zeroField w ≠ 0#24 then .illegal .zeroFieldNotZero else decodeOpcode (opcodeField w)

/-- The command decoded, where there is one. -/
def Decoded.command? : Decoded → Option Instr
  | .command i => some i
  | .illegal _ => none

/-- The encoder: the command words of 30_encoding.md R84. -/
def encode : Instr → Word
  | .crc32    => 0x00000001#32
  | .adler32  => 0x00000002#32
  | .pack     => 0x00000003#32
  | .chunk    => 0x00000004#32
  | .assemble => 0x00000005#32
  | .filter   => 0x00000006#32
  | .encode   => 0x00000007#32

/-- The command word that the opcode table's bits `w` stand for: a command is one 32-bit word, so
bits above `nbits` are zero and a longer row is no command word (30_encoding.md R80). -/
def tableWord (nbits w : Nat) : Word := BitVec.ofNat 32 (w % 2 ^ nbits)

/-- The instruction the decoder reads from the bits of an opcode-table row. -/
def decodeTableWord (nbits w : Nat) : Option Instr :=
  if nbits ≤ 32 then (decode (tableWord nbits w)).command? else none

end Sys2Proof
end

