-- ==== Sys2Proof/Machine/State.lean ====
section
/-! DEFINITION. The state of one core (10_state.md R20), of the host that drives it, the reasons a
step can stop, and the state after reset (10_state.md R38). -/

namespace Sys2Proof.Machine

/-- Why the machine stops. -/
inductive Fault where
  /-- The host wrote an SRC byte below `PEND.n` while BUSY = 1. Raised by the host step; safe:
  70_reset_and_hazards.md R235 tells a model to fault such a run. -/
  | srcOwnedByCore
  /-- The command in progress needs more SRC than the platform backs. Raised by the completion step;
  safe: 20_memory.md R57 gives such a command no completion (stuck). Never with SRC_SIZE = 2^32. -/
  | beyondBackedSrc
  /-- The host named an SRC address of 2^32 or more. Raised by the host step; safe: 10_state.md R35
  gives SRC the addresses 0 to 2^32 - 1 and no others. -/
  | noSuchSrcAddress
  deriving DecidableEq, Repr

/-- Why a step has no meaning. -/
inductive Refusal where
  /-- The instruction has no meaning in the model. Raised by a dispatch arm only; safe. -/
  | notModelled (mnemonic : String)
  /-- A REG access not 32 bits wide or not at a multiple of 4, or an SRC or OUT access not one byte
  wide. Raised by the host step; safe: 20_memory.md R55 says a model refuses it. -/
  | notInTheInterface
  deriving DecidableEq, Repr

/-- PEND, the operand latch (10_state.md R31). -/
structure Pend where
  op : Word
  w : Word
  h : Word
  n : Word
  t : Word
  deriving DecidableEq, Repr

/-- The unit registers no host access can read (10_state.md R32 to R34). -/
structure Units where
  /-- CRC, the running CRC-32 remainder before the final XOR (R32). -/
  crc : BitVec 32
  /-- A, the Adler-32 sum `a` (R32). -/
  a : BitVec 16
  /-- B, the Adler-32 sum `b` (R32). -/
  b : BitVec 16
  /-- REM, the number of input bytes not yet emitted (R33). -/
  rem : BitVec 32
  /-- BLK, the number of bytes still to emit in the current block (R33). -/
  blk : BitVec 16
  /-- ROW, the index of the current row (R34). -/
  row : BitVec 32
  /-- COL, the index of the next byte within the current row (R34). -/
  col : BitVec 34
  /-- POS, the number of payload bytes of the current chunk already serialised (R34). -/
  pos : BitVec 32
  deriving DecidableEq, Repr

/-- SRC as the bytes written since reset: addresses strictly rising, each below 2^32. An address
that is not listed holds no known value (70_reset_and_hazards.md R232, log 4). -/
abbrev Memory := List Host.Cell

/-- A value a host read returned: a register's 32 bits or one byte. -/
inductive Reading where
  | word (v : Word)
  | byte (v : Byte)
  deriving DecidableEq, Repr

/-- The state of the core (10_state.md R20), then the host's side and the counters of the model's
free values. CMD stores nothing (R21) and has no field. -/
structure State where
  /-- STATUS (10_state.md R22); its fields are read through Machine/Flags.lean. -/
  status : Word
  /-- WIDTH (10_state.md R23). -/
  width : Word
  /-- HEIGHT (10_state.md R24). -/
  height : Word
  /-- SRC_LEN (10_state.md R25). -/
  srcLen : Word
  /-- TYPE (10_state.md R26). -/
  typeTag : Word
  /-- RESULT (10_state.md R27). -/
  result : Word
  /-- OUT_LEN (10_state.md R28). -/
  outLen : Word
  /-- OUT (10_state.md R36). -/
  out : Bytes
  /-- SRC (10_state.md R35). -/
  src : Memory
  /-- PEND (10_state.md R31). -/
  pend : Pend
  /-- CRC, A, B, REM, BLK, ROW, COL, POS (10_state.md R32 to R34). -/
  units : Units
  /-- MODEL'S OWN: the host steps still to be taken (log 1). -/
  program : List HostStep
  /-- MODEL'S OWN: the values the host's reads returned, newest first (log 1). -/
  readings : List Reading
  /-- MODEL'S OWN: which agent moves next (60_exceptions.md R200, log 1). -/
  turns : List Agent
  /-- MODEL'S OWN: how many free values have been drawn (log 18). -/
  draws : Nat
  /-- MODEL'S OWN: how many completion steps were taken (log 18). -/
  completions : Nat
  /-- MODEL'S OWN: how many resets the host applied (log 18). -/
  resets : Nat
  deriving DecidableEq, Repr

/-- DESIGN CHOICE (log 3): PEND after reset, which 10_state.md R31 leaves unspecified. -/
def Pend.atReset : Pend := { op := 0, w := 0, h := 0, n := 0, t := 0 }

/-- DESIGN CHOICE (log 3): the unit registers after reset, which 10_state.md R32 to R34 leave
unspecified. -/
def Units.atReset : Units :=
  { crc := 0, a := 0, b := 0, rem := 0, blk := 0, row := 0, col := 0, pos := 0 }

/-- The machine right after reset (10_state.md R38, 70_reset_and_hazards.md R230): no host step is
placed, no SRC byte holds a known value. -/
def State.reset : State where
  status := 0
  width := 0
  height := 0
  srcLen := 0
  typeTag := 0
  result := 0
  outLen := 0
  out := []
  src := []
  pend := Pend.atReset
  units := Units.atReset
  program := []
  readings := []
  turns := []
  draws := 0
  completions := 0
  resets := 0

end Sys2Proof.Machine
end

