-- ==== Sys2Proof/Machine/Flags.lean ====
section
/-! DEFINITION. The fields of STATUS (10_state.md R22) and the error codes (60_exceptions.md R206). -/

namespace Sys2Proof.Machine

/-- The five errors of 60_exceptions.md R206; codes 6 to 15 are never produced. -/
inductive CoreError where
  | invalidDimensions
  | bufferLengthMismatch
  | internalInvariantViolation
  | lengthOverflow
  | illegalCommand
  deriving DecidableEq, Repr

/-- The code STATUS.ERR takes (60_exceptions.md R206). -/
def errorCode : CoreError → BitVec 4
  | .invalidDimensions          => 1#4
  | .bufferLengthMismatch       => 2#4
  | .internalInvariantViolation => 3#4
  | .lengthOverflow             => 4#4
  | .illegalCommand             => 5#4

/-- BUSY, bit 0. -/
def statusBusy (w : Word) : Bool := w.getLsbD 0

/-- DONE, bit 1. -/
def statusDone (w : Word) : Bool := w.getLsbD 1

/-- FATAL, bit 2. -/
def statusFatal (w : Word) : Bool := w.getLsbD 2

/-- ERR, bits 11:8. -/
def statusErr (w : Word) : BitVec 4 := w.extractLsb' 8 4

/-- The reserved bits 7:3. -/
def statusReservedLow (w : Word) : BitVec 5 := w.extractLsb' 3 5

/-- The reserved bits 31:12. -/
def statusReservedHigh (w : Word) : BitVec 20 := w.extractLsb' 12 20

/-- STATUS.BUSY <- b. -/
def setBusy (b : Bool) (w : Word) : Word := (w &&& 0xFFFFFFFE#32) ||| (BitVec.ofBool b).setWidth 32

/-- STATUS.DONE <- b. -/
def setDone (b : Bool) (w : Word) : Word := (w &&& 0xFFFFFFFD#32) ||| ((BitVec.ofBool b).setWidth 32 <<< 1)

/-- STATUS.FATAL <- b. -/
def setFatal (b : Bool) (w : Word) : Word := (w &&& 0xFFFFFFFB#32) ||| ((BitVec.ofBool b).setWidth 32 <<< 2)

/-- STATUS.ERR <- e. -/
def setErr (e : BitVec 4) (w : Word) : Word := (w &&& 0xFFFFF0FF#32) ||| (e.setWidth 32 <<< 8)

/-- What issue does to STATUS (60_exceptions.md R201): BUSY <- 1, DONE <- 0, ERR <- 0. -/
def statusIssued (w : Word) : Word := setErr 0#4 (setDone false (setBusy true w))

/-- What a completion without error does to STATUS (60_exceptions.md R202). -/
def statusSucceeded (w : Word) : Word := setDone true (setBusy false (setErr 0#4 w))

/-- What a completion with an error does to STATUS (60_exceptions.md R202): the code goes to ERR,
and code 3 sets FATAL (R216). -/
def statusFailed (e : CoreError) (w : Word) : Word :=
  let w' := setErr (errorCode e) w
  setDone true (setBusy false (if errorCode e = 3#4 then setFatal true w' else w'))

/-- STATUS.BUSY of a state. -/
def State.busy (s : State) : Bool := statusBusy s.status

/-- STATUS.DONE of a state. -/
def State.done (s : State) : Bool := statusDone s.status

/-- STATUS.FATAL of a state. -/
def State.fatal (s : State) : Bool := statusFatal s.status

/-- STATUS.ERR of a state. -/
def State.err (s : State) : BitVec 4 := statusErr s.status

end Sys2Proof.Machine
end

