-- ==== Sys2Proof/Machine/Bytes.lean ====
section
/-! DEFINITION. The serialisers of 00_scope.md R8 and the 16-bit complement of R7. -/

namespace Sys2Proof.Machine

/-- `be32(v)`, 4-byte big-endian (00_scope.md R8). -/
def be32 (v : Word) : Bytes :=
  [v.extractLsb' 24 8, v.extractLsb' 16 8, v.extractLsb' 8 8, v.extractLsb' 0 8]

/-- `le16(v)`, 16-bit little-endian (00_scope.md R8). -/
def le16 (v : BitVec 16) : Bytes := [v.extractLsb' 0 8, v.extractLsb' 8 8]

/-- `not16(v) = 0xFFFF xor v` (00_scope.md R7). -/
def not16 (v : BitVec 16) : BitVec 16 := 0xFFFF#16 ^^^ v

/-- A length as the 32-bit number a length field or OUT_LEN holds. -/
def lengthWord (s : Bytes) : Word := BitVec.ofNat 32 s.length

end Sys2Proof.Machine
end

