-- ==== Sys2Proof/Machine/Operands.lean ====
section
/-! DEFINITION. The operands of a command (30_encoding.md R82, R83) and the checks made on them
before any SRC byte is read (60_exceptions.md R207, R208, R211). All arithmetic is over the
unbounded naturals (00_scope.md R7). -/

namespace Sys2Proof.Machine

/-- `PEND.w` as a number. -/
def Pend.width (p : Pend) : Nat := p.w.toNat

/-- `PEND.h` as a number. -/
def Pend.height (p : Pend) : Nat := p.h.toNat

/-- `PEND.n`, the length of the input. -/
def Pend.length (p : Pend) : Nat := p.n.toNat

/-- The tag bytes of CHUNK, `be32(PEND.t)` (30_encoding.md R83). -/
def Pend.tag (p : Pend) : Bytes := be32 p.t

/-- `invalid_dims(w, h)` (60_exceptions.md R207). -/
def invalidDims (c : Config) (w h : Nat) : Bool :=
  w == 0 || h == 0 || decide (c.maxDim < w) || decide (c.maxDim < h)

/-- `length_mismatch(w, h, n)`: the exact product, no wrap (60_exceptions.md R208). -/
def lengthMismatch (w h n : Nat) : Bool := n != w * h * 4

/-- BLOCK_MAX, the longest stored block (00_scope.md R5). -/
def blockMax : Nat := 65535

/-- `N = ceil(max(n, 1) / 65535)`, the number of blocks (41_stored_deflate.md R132). -/
def blockCount (n : Nat) : Nat := (max n 1 + (blockMax - 1)) / blockMax

/-- The length of `pack` of `n` bytes (41_stored_deflate.md R138). -/
def packLength (n : Nat) : Nat := n + 5 * blockCount n + 6

/-- The length of a chunk with `n` payload bytes (42_chunk.md R150). -/
def chunkLength (n : Nat) : Nat := 12 + n

/-- The length of `assemble` with `n` IDAT payload bytes (42_chunk.md R156). -/
def assembleLength (n : Nat) : Nat := 57 + n

/-- `L`, the length of the scanline buffer (43_filter.md R174). -/
def scanlineLength (w h : Nat) : Nat := h * (1 + 4 * w)

/-- The length of the whole PNG (44_encode.md R181, R183). -/
def encodeLength (w h : Nat) : Nat :=
  63 + scanlineLength w h + 5 * blockCount (scanlineLength w h)

/-- An output of `n` bytes is longer than OUT_MAX (60_exceptions.md R211). -/
def tooLong (n : Nat) : Bool := decide (Config.outMax < n)

end Sys2Proof.Machine
end

