-- ==== Sys2Proof/Machine/Ops.lean ====
section
/-! DEFINITION. The named operations over SRC, the registers and the latch: memory, issue
(60_exceptions.md R201), completion (R202), raising an error (R210), reset (70_reset_and_hazards.md
R230), and the shared frame of a command. -/

namespace Sys2Proof.Machine

/-! ### SRC -/

/-- The canonical form of SRC: addresses strictly rising, each inside the space. An unlisted address
reads as no listed value, so no entry can repeat what an unlisted address reads as (log 4). -/
abbrev Memory.wf (m : Memory) : Prop :=
  m.Pairwise (fun x y => x.1 < y.1) ∧ ∀ x ∈ m, x.1 < Config.srcSpace

/-- The byte written at `a` since reset, where there is one. -/
def Memory.read? : Memory → Nat → Option Byte
  | [], _ => none
  | (x, v) :: m, a => if x = a then some v else Memory.read? m a

/-- `MemWrite(SRC, a, 1, v)` (00_scope.md R9), keeping the addresses in rising order. -/
def Memory.write : Memory → Nat → Byte → Memory
  | [], a, v => [(a, v)]
  | (x, u) :: m, a, v =>
    if a < x then (a, v) :: (x, u) :: m
    else if x = a then (a, v) :: m
    else (x, u) :: Memory.write m a v

/-- `MemRead(SRC, a, 1)` (00_scope.md R9): the byte written there since reset, else a free value
(70_reset_and_hazards.md R232, log 4). -/
def State.srcByte (s : State) (a : Nat) : Byte :=
  (Memory.read? s.src a).getD (Config.unwrittenSrc s.resets a)

/-- `SRCBUF(n)`, the bytes at SRC addresses 0 to n - 1 (00_scope.md R9). -/
def State.srcBuf (s : State) (n : Nat) : Bytes := (List.range n).map s.srcByte

/-! ### Updates of one field -/

/-- WIDTH <- v. -/
def State.setWidth (s : State) (v : Word) : State := { s with width := v }

/-- HEIGHT <- v. -/
def State.setHeight (s : State) (v : Word) : State := { s with height := v }

/-- SRC_LEN <- v. -/
def State.setSrcLen (s : State) (v : Word) : State := { s with srcLen := v }

/-- TYPE <- v. -/
def State.setTypeTag (s : State) (v : Word) : State := { s with typeTag := v }

/-- The host stores `v` at the SRC address `a`. -/
def State.storeSrc (s : State) (a : Nat) (v : Byte) : State := { s with src := Memory.write s.src a v }

/-- The host's remaining steps. -/
def State.setProgram (s : State) (p : List HostStep) : State := { s with program := p }

/-- One more free value is drawn. -/
def State.countDraw (s : State) : State := { s with draws := s.draws + 1 }

/-- The value a read returned goes to the host. -/
def State.pushReading (s : State) (r : Reading) : State := { s with readings := r :: s.readings }

/-! ### Free values -/

/-- PEND between commands: five free values (10_state.md R31, log 5). -/
def freePend (k : Nat) : Pend :=
  { op := Config.freeValue 32 k, w := Config.freeValue 32 (k + 1), h := Config.freeValue 32 (k + 2),
    n := Config.freeValue 32 (k + 3), t := Config.freeValue 32 (k + 4) }

/-- The unit registers between commands: eight free values (10_state.md R32 to R34, log 5). -/
def freeUnits (k : Nat) : Units :=
  { crc := Config.freeValue 32 k, a := Config.freeValue 16 (k + 1), b := Config.freeValue 16 (k + 2),
    rem := Config.freeValue 32 (k + 3), blk := Config.freeValue 16 (k + 4),
    row := Config.freeValue 32 (k + 5), col := Config.freeValue 34 (k + 6),
    pos := Config.freeValue 32 (k + 7) }

/-! ### Issue and completion -/

/-- What a command yields (60_exceptions.md R205): a RESULT value and an OUT value, or an error. -/
inductive CmdOutcome where
  | ok (result : Word) (bytes : Bytes)
  | err (e : CoreError)
  deriving DecidableEq, Repr

/-- PEND <- the command word and the operand registers (60_exceptions.md R201). -/
def State.latch (s : State) (v : Word) : Pend :=
  { op := v, w := s.width, h := s.height, n := s.srcLen, t := s.typeTag }

/-- The command word latched and STATUS showing a command in progress (60_exceptions.md R201). -/
def State.issued (s : State) (v : Word) : State :=
  { s with pend := s.latch v, status := statusIssued s.status }

/-- Issue, a host write of `v` to CMD (60_exceptions.md R201): dropped while FATAL or BUSY. -/
def State.issue (s : State) (v : Word) : State :=
  if s.fatal || s.busy then s else s.issued v

/-- Completion without error (60_exceptions.md R202). PEND and the unit registers are unspecified
from here on (10_state.md R31 to R34): thirteen free values (log 5). -/
def State.succeed (s : State) (result : Word) (bytes : Bytes) : State :=
  { s with
    result := result
    out := bytes
    outLen := lengthWord bytes
    status := statusSucceeded s.status
    pend := freePend s.draws
    units := freeUnits (s.draws + 5)
    draws := s.draws + 13
    completions := s.completions + 1 }

/-- Raising an error: completion with `Err(code)` (60_exceptions.md R202, R210, R216). Nothing else
changes, the hidden registers among it (R210, log 5). -/
def State.raise (s : State) (e : CoreError) : State :=
  { s with
    result := 0
    out := []
    outLen := 0
    status := statusFailed e s.status
    completions := s.completions + 1 }

/-- The completion step's writes (60_exceptions.md R202). -/
def State.complete (s : State) : CmdOutcome → State
  | .ok result bytes => s.succeed result bytes
  | .err e => s.raise e

/-- A command's completion with the parameters `c`: `f` is the command's pseudocode, a function of
PEND and of the SRC bytes below `PEND.n` only (60_exceptions.md R203). With SRC_LEN above SRC_SIZE
there is no completion (20_memory.md R57). -/
def runWith (c : Config) (f : Config → Pend → Bytes → CmdOutcome) (s : State) :
    Host.Outcome State Fault Refusal :=
  if c.srcSize < s.pend.length then .fault .beyondBackedSrc
  else .next (s.complete (f c s.pend (s.srcBuf s.pend.length)))

/-- A command's completion on this machine. -/
def runCommand (f : Config → Pend → Bytes → CmdOutcome) (s : State) :
    Host.Outcome State Fault Refusal :=
  runWith Config.machine f s

/-- The completion of a word that is no command (60_exceptions.md R205, R212; 30_encoding.md R85). -/
def runIllegal (s : State) : Host.Outcome State Fault Refusal := .next (s.raise .illegalCommand)

/-! ### Reset -/

/-- Reset (70_reset_and_hazards.md R230, R242): every register as in State.reset, OUT empty, no SRC
byte known. The host's side is no part of the core and stays (log 25). -/
def State.applyReset (s : State) : State :=
  { State.reset with
    program := s.program
    readings := s.readings
    turns := s.turns
    draws := s.draws
    completions := s.completions
    resets := s.resets + 1 }

end Sys2Proof.Machine
end

