-- ==== Sys2Proof/Machine/Checksum.lean ====
section
/-! DEFINITION. The Checksum Engine (40_checksum.md): the CRC-32 generator and the Adler-32 unit, as
functions, and the commands CRC32 and ADLER32. -/

namespace Sys2Proof.Machine

/-! ### CRC-32 -/

/-- CRC_POLY (40_checksum.md R100). -/
def crcPoly : Word := 0xEDB88320#32

/-- CRC_INIT (40_checksum.md R100). -/
def crcInit : Word := 0xFFFFFFFF#32

/-- CRC_XOROUT (40_checksum.md R100). -/
def crcXorOut : Word := 0xFFFFFFFF#32

/-- `crc_bit(c)`, one shift-and-conditional-XOR (40_checksum.md R101). -/
def crcBit (c : Word) : Word := if c.getLsbD 0 then (c >>> 1) ^^^ crcPoly else c >>> 1

/-- `crc_byte(c, b)`: the byte enters bits 7:0, then eight bit steps (40_checksum.md R102). -/
def crcByte (c : Word) (x : Byte) : Word := Nat.iterate crcBit 8 (c ^^^ x.setWidth 32)

/-- `crc_run(c, s)`, the register after feeding `s` from `c` (40_checksum.md R106). -/
def crcRun (c : Word) (s : Bytes) : Word := s.foldl crcByte c

/-- `crc_out` (40_checksum.md R103). -/
def crcOut (c : Word) : Word := c ^^^ crcXorOut

/-- `crc32(s)` (40_checksum.md R104). -/
def crc32 (s : Bytes) : Word := crcOut (crcRun crcInit s)

/-! ### Adler-32 -/

/-- ADLER_M (40_checksum.md R108). -/
def adlerM : Nat := 65521

/-- The sums `a` and `b` of the Adler unit (40_checksum.md R108). -/
structure AdlerSums where
  a : BitVec 16
  b : BitVec 16
  deriving DecidableEq, Repr

/-- `adler_init` (40_checksum.md R110). -/
def adlerInit : AdlerSums := { a := 1, b := 0 }

/-- `adler_byte((a, b), x)`: `b` is updated with the new `a`, each sum exact before its reduction
(40_checksum.md R109, R112). -/
def adlerByte (r : AdlerSums) (x : Byte) : AdlerSums :=
  let a' := (r.a.toNat + x.toNat) % adlerM
  { a := BitVec.ofNat 16 a', b := BitVec.ofNat 16 ((r.b.toNat + a') % adlerM) }

/-- The sums after feeding `s` (40_checksum.md R113). -/
def adlerRun (r : AdlerSums) (s : Bytes) : AdlerSums := s.foldl adlerByte r

/-- `adler_out`, `(b << 16) or a` (40_checksum.md R110). -/
def adlerOut (r : AdlerSums) : Word := (r.b.setWidth 32 <<< 16) ||| r.a.setWidth 32

/-- `adler32(s)` (40_checksum.md R111). -/
def adler32 (s : Bytes) : Word := adlerOut (adlerRun adlerInit s)

/-! ### The commands -/

/-- Pseudocode of CRC32 (40_checksum.md R107). -/
def crc32Outcome (_ : Config) (_ : Pend) (input : Bytes) : CmdOutcome := .ok (crc32 input) []

/-- Pseudocode of ADLER32 (40_checksum.md R114). -/
def adler32Outcome (_ : Config) (_ : Pend) (input : Bytes) : CmdOutcome := .ok (adler32 input) []

/-- CRC32 (40_checksum.md R107). -/
def execCrc32 (s : State) : Host.Outcome State Fault Refusal := runCommand crc32Outcome s

/-- ADLER32 (40_checksum.md R114). -/
def execAdler32 (s : State) : Host.Outcome State Fault Refusal := runCommand adler32Outcome s

end Sys2Proof.Machine
end

