-- ==== Sys2Proof/Machine/Chunk.lean ====
section
/-! DEFINITION. The PNG Chunk Assembler (42_chunk.md): `chunk`, `assemble` and the commands CHUNK
and ASSEMBLE. -/

namespace Sys2Proof.Machine

/-- SIG, the PNG signature (30_encoding.md R71). -/
def signature : Bytes := [0x89#8, 0x50#8, 0x4E#8, 0x47#8, 0x0D#8, 0x0A#8, 0x1A#8, 0x0A#8]

/-- `ascii("IHDR")` (30_encoding.md R73). -/
def tagIHDR : Bytes := [0x49#8, 0x48#8, 0x44#8, 0x52#8]

/-- `ascii("IDAT")` (30_encoding.md R73). -/
def tagIDAT : Bytes := [0x49#8, 0x44#8, 0x41#8, 0x54#8]

/-- `ascii("IEND")` (30_encoding.md R73). -/
def tagIEND : Bytes := [0x49#8, 0x45#8, 0x4E#8, 0x44#8]

/-- `chunk(t, p)` (42_chunk.md R150): the CRC is over type and payload, not over the length. -/
def chunk (t p : Bytes) : Bytes := be32 (lengthWord p) ++ t ++ p ++ be32 (crc32 (t ++ p))

/-- `ihdr_payload(w, h)` (42_chunk.md R153). -/
def ihdrPayload (w h : Word) : Bytes :=
  be32 w ++ be32 h ++ [0x08#8, 0x06#8, 0x00#8, 0x00#8, 0x00#8]

/-- `assemble(ih, id)` (42_chunk.md R156). -/
def assemble (ih id : Bytes) : Bytes :=
  signature ++ chunk tagIHDR ih ++ chunk tagIDAT id ++ chunk tagIEND []

/-- Pseudocode of CHUNK (42_chunk.md R160); the tag is not checked (R151). -/
def chunkOutcome (_ : Config) (p : Pend) (input : Bytes) : CmdOutcome :=
  if tooLong (chunkLength p.length) then .err .lengthOverflow
  else .ok 0 (chunk p.tag input)

/-- Pseudocode of ASSEMBLE (42_chunk.md R161). -/
def assembleOutcome (c : Config) (p : Pend) (input : Bytes) : CmdOutcome :=
  if invalidDims c p.width p.height then .err .invalidDimensions
  else if tooLong (assembleLength p.length) then .err .lengthOverflow
  else .ok 0 (assemble (ihdrPayload p.w p.h) input)

/-- CHUNK (42_chunk.md R160). -/
def execChunk (s : State) : Host.Outcome State Fault Refusal := runCommand chunkOutcome s

/-- ASSEMBLE (42_chunk.md R161). -/
def execAssemble (s : State) : Host.Outcome State Fault Refusal := runCommand assembleOutcome s

end Sys2Proof.Machine
end

