-- ==== Sys2Proof/Machine/Filter.lean ====
section
/-! DEFINITION. The Raster Filter Stage (43_filter.md): `filter` and the command FILTER. -/

namespace Sys2Proof.Machine

/-- The filter-type byte 00, "None" (43_filter.md R171). -/
def filterByte : Byte := 0x00#8

/-- `rows` scanlines of `rowBytes` pixel bytes each, a filter byte before each row (43_filter.md R170). -/
def scanlines : (rows rowBytes : Nat) → Bytes → Bytes
  | 0, _, _ => []
  | rows + 1, rowBytes, px =>
    (filterByte :: px.take rowBytes) ++ scanlines rows rowBytes (px.drop rowBytes)

/-- `filter(px, w, h)` (43_filter.md R170). -/
def filterImage (px : Bytes) (w h : Nat) : Bytes := scanlines h (4 * w) px

/-- Pseudocode of FILTER (43_filter.md R175). -/
def filterOutcome (c : Config) (p : Pend) (input : Bytes) : CmdOutcome :=
  if invalidDims c p.width p.height then .err .invalidDimensions
  else if lengthMismatch p.width p.height p.length then .err .bufferLengthMismatch
  else if tooLong (scanlineLength p.width p.height) then .err .lengthOverflow
  else .ok 0 (filterImage input p.width p.height)

/-- FILTER (43_filter.md R175). -/
def execFilter (s : State) : Host.Outcome State Fault Refusal := runCommand filterOutcome s

end Sys2Proof.Machine
end

