-- ==== Sys2Proof/Machine/Packer.lean ====
section
/-! DEFINITION. The Stored-DEFLATE Packer (41_stored_deflate.md): `pack` and the command PACK. -/

namespace Sys2Proof.Machine

/-- The two bytes of the zlib header (30_encoding.md R76, 41_stored_deflate.md R131). -/
def zlibHeader : Bytes := [0x78#8, 0x01#8]

/-- The flag byte of a block: bit 0 is the final flag, bits 7:1 are zero (30_encoding.md R77). -/
def flagByte (final : Bool) : Byte := if final then 0x01#8 else 0x00#8

/-- `hdr(f, len)`, the 5-byte stored-block header (41_stored_deflate.md R133). -/
def blockHeader (final : Bool) (len : BitVec 16) : Bytes :=
  flagByte final :: (le16 len ++ le16 (not16 len))

/-- The literal bytes of the blocks, in input order: `more` blocks of 65535 bytes at most, then the
last one (41_stored_deflate.md R132, R134). -/
def splitInto : (more : Nat) → Bytes → List Bytes
  | 0, raw => [raw]
  | more + 1, raw =>
    if raw.length ≤ blockMax then [raw]
    else raw.take blockMax :: splitInto more (raw.drop blockMax)

/-- The blocks' literal bytes for an input, `N = ceil(max(n, 1) / 65535)` of them (R132). -/
def splitBlocks (raw : Bytes) : List Bytes := splitInto (blockCount raw.length - 1) raw

/-- Each block's header and literal bytes; the last one alone carries the final flag (R134). -/
def frameBlocks : List Bytes → Bytes
  | [] => []
  | [last] => blockHeader true (BitVec.ofNat 16 last.length) ++ last
  | p :: ps => blockHeader false (BitVec.ofNat 16 p.length) ++ p ++ frameBlocks ps

/-- `blocks(raw)` (41_stored_deflate.md R134). -/
def blocks (raw : Bytes) : Bytes := frameBlocks (splitBlocks raw)

/-- `pack(raw)` (41_stored_deflate.md R130). -/
def pack (raw : Bytes) : Bytes := zlibHeader ++ blocks raw ++ be32 (adler32 raw)

/-- The defensive check of 41_stored_deflate.md R140: some block is longer than 65535 bytes
(60_exceptions.md R209, log 14). -/
def blockTooLong (raw : Bytes) : Bool := (splitBlocks raw).any (fun p => decide (blockMax < p.length))

/-- Pseudocode of PACK (41_stored_deflate.md R141). -/
def packOutcome (_ : Config) (p : Pend) (input : Bytes) : CmdOutcome :=
  if tooLong (packLength p.length) then .err .lengthOverflow
  else if blockTooLong input then .err .internalInvariantViolation
  else .ok 0 (pack input)

/-- PACK (41_stored_deflate.md R141). -/
def execPack (s : State) : Host.Outcome State Fault Refusal := runCommand packOutcome s

end Sys2Proof.Machine
end

