-- ==== Sys2Proof/Machine/Encode.lean ====
section
/-! DEFINITION. The whole pipeline (44_encode.md): `encode` and the command ENCODE. -/

namespace Sys2Proof.Machine

/-- `encode(px, w, h)` (44_encode.md R180). -/
def encodeImage (px : Bytes) (w h : Word) : Bytes :=
  assemble (ihdrPayload w h) (pack (filterImage px w.toNat h.toNat))

/-- Pseudocode of ENCODE (44_encode.md R184), with the packer's defensive check (R140, log 14). -/
def encodeOutcome (c : Config) (p : Pend) (input : Bytes) : CmdOutcome :=
  if invalidDims c p.width p.height then .err .invalidDimensions
  else if lengthMismatch p.width p.height p.length then .err .bufferLengthMismatch
  else if tooLong (encodeLength p.width p.height) then .err .lengthOverflow
  else if blockTooLong (filterImage input p.width p.height) then .err .internalInvariantViolation
  else .ok 0 (encodeImage input p.w p.h)

/-- ENCODE (44_encode.md R184). -/
def execEncode (s : State) : Host.Outcome State Fault Refusal := runCommand encodeOutcome s

end Sys2Proof.Machine
end

