-- ==== Sys2Proof/Machine/Dispatch.lean ====
section
/-! DEFINITION. The dispatch of 60_exceptions.md R205: one arm per command. -/

namespace Sys2Proof.Machine

def exec (i : Instr) (s : State) : Host.Outcome State Fault Refusal :=
  match i with
  | .crc32 => Sys2Proof.Machine.execCrc32 s
  | .adler32 => Sys2Proof.Machine.execAdler32 s
  | .pack => Sys2Proof.Machine.execPack s
  | .chunk => Sys2Proof.Machine.execChunk s
  | .assemble => Sys2Proof.Machine.execAssemble s
  | .filter => Sys2Proof.Machine.execFilter s
  | .encode => Sys2Proof.Machine.execEncode s

end Sys2Proof.Machine
end

