-- ==== Sys2Proof/Machine/CoreAgent.lean ====
section
/-! DEFINITION. The core's one step, the completion of the command in progress (60_exceptions.md R202). -/

namespace Sys2Proof.Machine

/-- The command in progress: what the latched word decodes to (60_exceptions.md R205). -/
def State.command (s : State) : Decoded := decode s.pend.op

/-- The completion of the latched word (60_exceptions.md R202, R205). -/
def completionStep (s : State) : Host.Outcome State Fault Refusal :=
  match s.command with
  | .command i => exec i s
  | .illegal _ => runIllegal s

/-- The core's turn: its only step is enabled while BUSY = 1 (60_exceptions.md R200, R202); otherwise
it is idle and keeps all state (R220). -/
def coreStep (s : State) : Host.Outcome State Fault Refusal :=
  if s.busy then completionStep s else .next s

end Sys2Proof.Machine
end

