-- ==== Sys2Proof/Machine/HostAgent.lean ====
section
/-! DEFINITION. The host's accesses (20_memory.md R51, R55, R56; 60_exceptions.md R222) and host
programs (30_encoding.md R87, R88). -/

namespace Sys2Proof.Machine

/-! ### Registers -/

/-- The register at a REG offset that is a multiple of 4; 0x20 and above are reserved (20_memory.md R57,
10_state.md R29). -/
def regAt (offset : Nat) : Option Reg :=
  if offset = 0x00 then some .cmd
  else if offset = 0x04 then some .status
  else if offset = 0x08 then some .width
  else if offset = 0x0C then some .height
  else if offset = 0x10 then some .srcLen
  else if offset = 0x14 then some .typeTag
  else if offset = 0x18 then some .result
  else if offset = 0x1C then some .outLen
  else none

/-- The offset of a register (20_memory.md R57). -/
def regOffset : Reg → Nat
  | .cmd => 0x00
  | .status => 0x04
  | .width => 0x08
  | .height => 0x0C
  | .srcLen => 0x10
  | .typeTag => 0x14
  | .result => 0x18
  | .outLen => 0x1C

/-- A read of RESULT or OUT_LEN: the register, or while BUSY = 1 a fresh free value
(70_reset_and_hazards.md R236, log 6). -/
def readWhenIdle (s : State) (v : Word) : Word × State :=
  if s.busy then (Config.freeValue 32 s.draws, s.countDraw) else (v, s)

/-- A host register read (10_state.md R21 to R29): the value, and the state with the draw counted. -/
def readRegister (offset : Nat) (s : State) : Word × State :=
  match regAt offset with
  | some .cmd     => (0, s)
  | some .status  => (s.status, s)
  | some .width   => (s.width, s)
  | some .height  => (s.height, s)
  | some .srcLen  => (s.srcLen, s)
  | some .typeTag => (s.typeTag, s)
  | some .result  => readWhenIdle s s.result
  | some .outLen  => readWhenIdle s s.outLen
  | none          => (0, s)

/-- A host register write (10_state.md R21 to R29; 20_memory.md R56): CMD issues, the four operand
registers store, everything else ignores the write. -/
def writeRegister (offset : Nat) (v : Word) (s : State) : State :=
  match regAt offset with
  | some .cmd     => s.issue v
  | some .width   => s.setWidth v
  | some .height  => s.setHeight v
  | some .srcLen  => s.setSrcLen v
  | some .typeTag => s.setTypeTag v
  | some .status  => s
  | some .result  => s
  | some .outLen  => s
  | none          => s

/-! ### OUT -/

/-- A host read of `OUT[i]` (10_state.md R36): while BUSY = 1 a fresh free byte (R236); beyond the end
a free byte that stays until the core's next step (20_memory.md R51, R56, log 7). -/
def readOutByte (i : Nat) (s : State) : Byte × State :=
  if s.busy then (Config.freeValue 8 s.draws, s.countDraw)
  else ((s.out[i]?).getD (Config.outBeyondEnd s.resets s.completions i), s)

/-! ### Accesses -/

/-- The host may not write this SRC byte: it is below the latched length of a command in progress
(70_reset_and_hazards.md R235). -/
def State.ownedByCore (s : State) (a : Nat) : Bool := s.busy && decide (a < s.pend.length)

/-- One host access; a form outside the interface has no step (20_memory.md R55). -/
def access (a : Access) (s : State) : Host.Outcome State Fault Refusal :=
  if a.wellFormed then
    match a with
    | .readReg offset _ =>
      let r := readRegister offset s
      .next (r.2.pushReading (.word r.1))
    | .writeReg offset _ v => .next (writeRegister offset v s)
    | .readSrc address _ =>
      if Config.srcSpace ≤ address then .fault .noSuchSrcAddress
      else .next (s.pushReading (.byte (s.srcByte address)))
    | .writeSrc address _ v =>
      if Config.srcSpace ≤ address then .fault .noSuchSrcAddress
      else if s.ownedByCore address then .fault .srcOwnedByCore
      else .next (s.storeSrc address v)
    | .readOut index _ =>
      let r := readOutByte index s
      .next (r.2.pushReading (.byte r.1))
    | .reset => .next s.applyReset
  else .refused .notInTheInterface

/-! ### Host programs (30_encoding.md R87, R88) -/

/-- `WR reg, value`. -/
def hostWR (r : Reg) (v : Word) : HostStep := .access (.writeReg (regOffset r) 32 v)

/-- `RD reg`. -/
def hostRD (r : Reg) : HostStep := .access (.readReg (regOffset r) 32)

/-- `ST addr, byte`. -/
def hostST (a : Nat) (v : Byte) : HostStep := .access (.writeSrc a 8 v)

/-- `LD addr`. -/
def hostLD (a : Nat) : HostStep := .access (.readSrc a 8)

/-- `RO index`. -/
def hostRO (i : Nat) : HostStep := .access (.readOut i 8)

/-- `ST a, b0; ST a + 1, b1; …`. -/
def storeFrom : (a : Nat) → Bytes → List HostStep
  | _, [] => []
  | a, v :: s => hostST a v :: storeFrom (a + 1) s

/-- `LOAD bytes`: the bytes to SRC address 0 and up, then SRC_LEN. -/
def hostLOAD (s : Bytes) : List HostStep := storeFrom 0 s ++ [hostWR .srcLen (lengthWord s)]

/-- `RUN mnemonic`: the command word to CMD, then WAIT. -/
def hostRUN (i : Instr) : List HostStep := [hostWR .cmd (Sys2Proof.encode i), .wait]

/-- `TAG "c0 c1 c2 c3"`: the four codes as one big-endian number to TYPE. -/
def hostTAG (c0 c1 c2 c3 : Byte) : HostStep := hostWR .typeTag (c0 ++ c1 ++ c2 ++ c3)

/-- The `k` byte reads of FETCH. -/
def readOuts (k : Nat) : List HostStep := (List.range k).map hostRO

/-- The low byte of a reading. -/
def Reading.low : Reading → Byte
  | .word v => v.extractLsb' 0 8
  | .byte v => v

/-- The last `k` readings in the order they were made. -/
def State.lastReadings (s : State) (k : Nat) : Bytes := ((s.readings.take k).reverse).map Reading.low

/-- A host read of OUT_LEN that puts the expansion it asks for in front of the program. -/
def readLengthThen (expand : Nat → List HostStep) (s : State) : State :=
  let r := readRegister (regOffset .outLen) s
  let s' := r.2.pushReading (.word r.1)
  s'.setProgram (expand r.1.toNat ++ s'.program)

/-- One step of the host agent: the next step of its program. WAIT reads STATUS and stays while the
value read has BUSY = 1. FETCH and MOVE read OUT_LEN and go on with what R88 expands them to (log 15).
With no step left the host does nothing. -/
def hostStep (s : State) : Host.Outcome State Fault Refusal :=
  match s.program with
  | [] => .next s
  | .access a :: rest => access a (s.setProgram rest)
  | .wait :: rest =>
    let r := readRegister (regOffset .status) s
    let s' := r.2.pushReading (.word r.1)
    .next (if statusBusy r.1 then s' else s'.setProgram rest)
  | .fetch :: rest => .next (readLengthThen readOuts (s.setProgram rest))
  | .move :: rest => .next (readLengthThen (fun k => readOuts k ++ [.reload k]) (s.setProgram rest))
  | .reload k :: rest => .next (s.setProgram (hostLOAD (s.lastReadings k) ++ rest))

end Sys2Proof.Machine
end

