-- ==== Sys2Proof/Machine/Step.lean ====
section
/-! DEFINITION. One step of the machine (60_exceptions.md R200), and placing a command where the next
step runs it. -/

namespace Sys2Proof.Machine

/-- Who moves next: the first of the turns; with none left the core while it owes a completion
(60_exceptions.md R204), else the host (log 1). -/
def State.mover (s : State) : Agent :=
  match s.turns with
  | a :: _ => a
  | [] => if s.busy then .core else .host

/-- The turn is used up. -/
def State.passTurn (s : State) : State := { s with turns := s.turns.tail }

/-- One step of the agent whose turn it is (60_exceptions.md R200). -/
def step (s : State) : Host.Outcome State Fault Refusal :=
  match s.mover with
  | .core => coreStep s.passTurn
  | .host => hostStep s.passTurn

/-- A command reaches the core by a write to CMD (10_state.md R30). This is `s` with the word issued
whatever BUSY and FATAL were, and the core's turn next (log 2). -/
def State.withFetchWord (s : State) (nbits w : Nat) : State :=
  let s' := s.issued (tableWord nbits w)
  { s' with turns := if s'.turns = [] then [] else .core :: s'.turns }

end Sys2Proof.Machine
end

