-- ==== Sys2Proof/Machine/Platform.lean ====
section
/-! DEFINITION. Several cores on one platform (60_exceptions.md R221): independent instances, each
with its own registers, SRC, OUT, PEND and unit registers, sharing nothing (log 19).

DESIGN CHOICE (log 26), unsafe: what the spec leaves unspecified in each instance (SRC bytes not written,
reads while BUSY = 1, OUT beyond its end, PEND and the unit registers between commands) is a free value
that depends on the instance's own counters, not on the instance: two instances with equal counters
read equal values. An instance has no identifier (R221). -/

namespace Sys2Proof.Machine

/-- The instances of a platform; N_INSTANCES is the list's length (00_scope.md R6). -/
abbrev Platform := List State

/-- `n` instances right after reset, all equal: their unwritten SRC bytes read alike (DESIGN CHOICE, log 26). -/
def Platform.reset (n : Nat) : Platform := List.replicate n State.reset

/-- One step of instance `k`; no other instance is touched. An instance that does not exist has no step. -/
def Platform.step (k : Nat) (p : Platform) : Host.Outcome Platform Fault Refusal :=
  match p[k]? with
  | none => .next p
  | some s =>
    match Sys2Proof.Machine.step s with
    | .next s' => .next (p.set k s')
    | .fault r => .fault r
    | .refused r => .refused r

end Sys2Proof.Machine
end

