-- ==== Sys2Proof/Machine/Reader.lean ====
section
/-! DEFINITION. How a reader finds its way through the output (30_encoding.md R79): the checker of
the round-trip property (44_encode.md R186). It is no part of the core (00_scope.md R4). -/

namespace Sys2Proof.Machine

/-- A 32-bit big-endian number and what follows it. -/
def readBe32 : Bytes → Option (Word × Bytes)
  | a :: b :: c :: d :: rest => some (a ++ b ++ c ++ d, rest)
  | _ => none

/-- Exactly `n` bytes and what follows them. -/
def readBytes (n : Nat) (s : Bytes) : Option (Bytes × Bytes) :=
  if n ≤ s.length then some (s.take n, s.drop n) else none

/-- One stored block (30_encoding.md R77): its final flag, its literal bytes and what follows. -/
def readBlock : Bytes → Option (Bool × Bytes × Bytes)
  | f :: l0 :: l1 :: n0 :: n1 :: rest =>
    if (f = 0x00#8 ∨ f = 0x01#8) ∧ (n1 ++ n0 : BitVec 16) = not16 (l1 ++ l0) then
      match readBytes (l1 ++ l0 : BitVec 16).toNat rest with
      | some (literal, rest') => some (f == 0x01#8, literal, rest')
      | none => none
    else none
  | _ => none

/-- Stored blocks up to and including the final one: their literal bytes in order, and what follows. -/
def readBlocks : (fuel : Nat) → Bytes → Option (Bytes × Bytes)
  | 0, _ => none
  | fuel + 1, s =>
    match readBlock s with
    | some (true, literal, rest) => some (literal, rest)
    | some (false, literal, rest) =>
      match readBlocks fuel rest with
      | some (more, rest') => some (literal ++ more, rest')
      | none => none
    | none => none

/-- A zlib stream of stored blocks (30_encoding.md R75): header, blocks, Adler-32 trailer, no more. -/
def readZlib : Bytes → Option Bytes
  | c :: f :: s =>
    if c = 0x78#8 ∧ f = 0x01#8 then
      match readBlocks s.length s with
      | some (raw, rest) => if rest = be32 (adler32 raw) then some raw else none
      | none => none
    else none
  | _ => none

/-- One chunk (30_encoding.md R72) whose CRC field is right: tag, payload and what follows. -/
def readChunk (s : Bytes) : Option (Bytes × Bytes × Bytes) :=
  match readBe32 s with
  | some (n, s1) =>
    match readBytes 4 s1 with
    | some (tag, s2) =>
      match readBytes n.toNat s2 with
      | some (payload, s3) =>
        match readBe32 s3 with
        | some (crc, rest) => if crc = crc32 (tag ++ payload) then some (tag, payload, rest) else none
        | none => none
      | none => none
    | none => none
  | none => none

/-- `rows` scanlines of `rowBytes` pixel bytes each, every filter byte 00 (30_encoding.md R78): the pixels. -/
def readScanlines : (rows rowBytes : Nat) → Bytes → Option Bytes
  | 0, _, [] => some []
  | 0, _, _ :: _ => none
  | _ + 1, _, [] => none
  | rows + 1, rowBytes, f :: s =>
    if f = filterByte then
      match readBytes rowBytes s with
      | some (px, rest) =>
        match readScanlines rows rowBytes rest with
        | some more => some (px ++ more)
        | none => none
      | none => none
    else none

/-- The IHDR payload (30_encoding.md R74): width and height, with the five constant bytes. -/
def readIhdr (p : Bytes) : Option (Word × Word) :=
  match readBe32 p with
  | some (w, p1) =>
    match readBe32 p1 with
    | some (h, p2) => if p2 = [0x08#8, 0x06#8, 0x00#8, 0x00#8, 0x00#8] then some (w, h) else none
    | none => none
  | none => none

/-- The chunk with tag `tag` at the head of `s`: its payload and what follows. -/
def readTagged (tag s : Bytes) : Option (Bytes × Bytes) :=
  match readChunk s with
  | some (t, payload, rest) => if t = tag then some (payload, rest) else none
  | none => none

/-- The three chunks of a PNG after its signature (30_encoding.md R70): IHDR and IDAT payloads. -/
def readImageChunks (s : Bytes) : Option (Bytes × Bytes) :=
  match readTagged tagIHDR s with
  | some (ihdr, s1) =>
    match readTagged tagIDAT s1 with
    | some (idat, s2) => if s2 = chunk tagIEND [] then some (ihdr, idat) else none
    | none => none
  | none => none

/-- A whole PNG of this core: width, height and the pixel buffer (44_encode.md R186). -/
def readPng (s : Bytes) : Option (Word × Word × Bytes) :=
  match readBytes 8 s with
  | some (sig, s1) =>
    if sig = signature then
      match readImageChunks s1 with
      | some (ihdr, idat) =>
        match readIhdr ihdr with
        | some (w, h) =>
          match readZlib idat with
          | some raw =>
            match readScanlines h.toNat (4 * w.toNat) raw with
            | some px => some (w, h, px)
            | none => none
          | none => none
        | none => none
      | none => none
    else none
  | none => none

end Sys2Proof.Machine
end

