-- ==== Sys2Proof/Machine/Outcome.lean ====
section
/-! DEFINITION. The pseudocode of every command as one function (60_exceptions.md R203, R205): what
`exec` yields for PEND and the SRC bytes below `PEND.n`. -/

namespace Sys2Proof.Machine

/-- What a command yields, a function of the parameters, of PEND and of the input only (60_exceptions.md R203). -/
def outcomeOf (i : Instr) (c : Config) (p : Pend) (input : Bytes) : CmdOutcome :=
  match i with
  | .crc32    => crc32Outcome c p input
  | .adler32  => adler32Outcome c p input
  | .pack     => packOutcome c p input
  | .chunk    => chunkOutcome c p input
  | .assemble => assembleOutcome c p input
  | .filter   => filterOutcome c p input
  | .encode   => encodeOutcome c p input

/-- `exec(P, SRC)` of 60_exceptions.md R205: an illegal word gives `Err(5)`. -/
def outcomeOfWord (c : Config) (p : Pend) (input : Bytes) : CmdOutcome :=
  match decode p.op with
  | .command i => outcomeOf i c p input
  | .illegal _ => .err .illegalCommand

end Sys2Proof.Machine
end

