-- ==== Sys2Proof/Machine/Streaming.lean ====
section
/-! DEFINITION. The streaming description of the units (00_scope.md R10): transitions of the unit
registers per input byte, with the bytes each transition emits. A command's result is the function's
(Machine/Outcome.lean); these transitions are how a streaming implementation reaches it, and the two
must agree. -/

namespace Sys2Proof.Machine

/-- A transition of a unit: the registers after it and the bytes it emits. -/
abbrev UnitStep := Units × Bytes

/-- Feeding a sequence to a unit, first byte first. -/
def feed (f : Byte → Units → UnitStep) : Bytes → Units → UnitStep
  | [], u => (u, [])
  | x :: xs, u =>
    let r := f x u
    let r' := feed f xs r.1
    (r'.1, r.2 ++ r'.2)

/-- One unit's output fed to the next. -/
def pipe (f g : Byte → Units → UnitStep) (x : Byte) (u : Units) : UnitStep :=
  let r := f x u
  feed g r.2 r.1

/-! ### Checksum units (40_checksum.md R102, R103, R109, R110) -/

/-- `crc_init` (R103). -/
def crcStart (u : Units) : Units := { u with crc := crcInit }

/-- `CRC <- crc_byte(CRC, b)` (R102). -/
def crcFeed (x : Byte) (u : Units) : Units := { u with crc := crcByte u.crc x }

/-- `adler_init` (R110). -/
def adlerStart (u : Units) : Units := { u with a := adlerInit.a, b := adlerInit.b }

/-- `(A, B) <- adler_byte((A, B), x)` (R109). -/
def adlerFeed (x : Byte) (u : Units) : Units :=
  let r := adlerByte { a := u.a, b := u.b } x
  { u with a := r.a, b := r.b }

/-- The CRC unit over a sequence, from its initialisation to its output. -/
def crcStream (s : Bytes) (u : Units) : Word := crcOut (s.foldl (fun u x => crcFeed x u) (crcStart u)).crc

/-- The Adler unit's output. -/
def adlerUnitOut (u : Units) : Word := adlerOut { a := u.a, b := u.b }

/-- The Adler unit over a sequence, from its initialisation to its output. -/
def adlerStream (s : Bytes) (u : Units) : Word := adlerUnitOut (s.foldl (fun u x => adlerFeed x u) (adlerStart u))

/-! ### Framer (41_stored_deflate.md R139) -/

/-- The trailer, `be32((B << 16) or A)`. -/
def framerTrailer (u : Units) : Bytes := be32 (adlerUnitOut u)

/-- `new_block`. With BLK = 0 the block ends at once; then REM is 0, the block was the final one,
and `end_block` emits the trailer (log 13). -/
def framerNewBlock (u : Units) : UnitStep :=
  let len := min u.rem.toNat blockMax
  let final := decide (u.rem.toNat ≤ blockMax)
  let u' := { u with blk := BitVec.ofNat 16 len, rem := u.rem - BitVec.ofNat 32 len }
  let header := blockHeader final u'.blk
  if u'.blk = 0 then (u', header ++ framerTrailer u') else (u', header)

/-- `end_block`: the block that just ended had f = 1 exactly when nothing remains (log 13). -/
def framerEndBlock (u : Units) : UnitStep :=
  if u.rem = 0 then (u, framerTrailer u) else framerNewBlock u

/-- `start(n)`. -/
def framerStart (n : Word) (u : Units) : UnitStep :=
  let r := framerNewBlock { adlerStart u with rem := n }
  (r.1, zlibHeader ++ r.2)

/-- `byte(x)`. -/
def framerByte (x : Byte) (u : Units) : UnitStep :=
  let u' := adlerFeed x u
  let u'' := { u' with blk := u'.blk - 1 }
  if u''.blk = 0 then
    let r := framerEndBlock u''
    (r.1, x :: r.2)
  else (u'', [x])

/-- The framer over an input of length `n`. -/
def framerRun (n : Word) (s : Bytes) (u : Units) : UnitStep :=
  let r := framerStart n u
  let r' := feed framerByte s r.1
  (r'.1, r.2 ++ r'.2)

/-! ### Serialiser (42_chunk.md R159) -/

/-- `finish`. -/
def serialiserFinish (u : Units) : Bytes := be32 (crcOut u.crc)

/-- `start(t, n)`. -/
def serialiserStart (t : Bytes) (n : Word) (u : Units) : UnitStep :=
  let u' := { t.foldl (fun u x => crcFeed x u) (crcStart u) with pos := 0 }
  let head := be32 n ++ t
  if n = 0 then (u', head ++ serialiserFinish u') else (u', head)

/-- `byte(x)` of a chunk whose payload has `n` bytes. -/
def serialiserByte (n : Word) (x : Byte) (u : Units) : UnitStep :=
  let u' := crcFeed x u
  let u'' := { u' with pos := u'.pos + 1 }
  if u''.pos = n then (u'', x :: serialiserFinish u'') else (u'', [x])

/-- The serialiser over a payload of `n` bytes. -/
def serialiserRun (t : Bytes) (n : Word) (p : Bytes) (u : Units) : UnitStep :=
  let r := serialiserStart t n u
  let r' := feed (serialiserByte n) p r.1
  (r'.1, r.2 ++ r'.2)

/-! ### Prefixer (43_filter.md R176) -/

/-- `start(w, h)`. -/
def prefixerStart (u : Units) : UnitStep := ({ u with row := 0, col := 0 }, [filterByte])

/-- `byte(x)`. -/
def prefixerByte (w h : Word) (x : Byte) (u : Units) : UnitStep :=
  let u' := { u with col := u.col + 1 }
  if u'.col.toNat = 4 * w.toNat then
    let u'' := { u' with row := u'.row + 1, col := 0 }
    if u''.row.toNat < h.toNat then (u'', [x, filterByte]) else (u'', [x])
  else (u', [x])

/-- The prefixer over a pixel buffer. -/
def prefixerRun (w h : Word) (px : Bytes) (u : Units) : UnitStep :=
  let r := prefixerStart u
  let r' := feed (prefixerByte w h) px r.1
  (r'.1, r.2 ++ r'.2)

/-! ### The commands in one pass (70_reset_and_hazards.md R240, 42_chunk.md R158) -/

/-- Signature, IHDR chunk and the start of the IDAT chunk of `idatLen` payload bytes. -/
def imageStart (w h idatLen : Word) (u : Units) : UnitStep :=
  let r := serialiserRun tagIHDR 13 (ihdrPayload w h) u
  let r' := serialiserStart tagIDAT idatLen r.1
  (r'.1, signature ++ r.2 ++ r'.2)

/-- The IEND chunk. -/
def imageEnd (u : Units) : UnitStep := serialiserRun tagIEND 0 [] u

/-- ASSEMBLE as one pass over the IDAT payload. -/
def assembleStream (w h n : Word) (id : Bytes) (u : Units) : UnitStep :=
  let r := imageStart w h n u
  let r' := feed (serialiserByte n) id r.1
  let r'' := imageEnd r'.1
  (r''.1, r.2 ++ r'.2 ++ r''.2)

/-- ENCODE as one pass over the pixels: prefixer, framer and IDAT serialiser in a row, every length
computed from the dimensions (44_encode.md R183). -/
def encodeStream (w h : Word) (px : Bytes) (u : Units) : UnitStep :=
  let L := scanlineLength w.toNat h.toNat
  let idatLen := BitVec.ofNat 32 (packLength L)
  let serial := serialiserByte idatLen
  let r := imageStart w h idatLen u
  let f := framerStart (BitVec.ofNat 32 L) r.1
  let f' := feed serial f.2 f.1
  let p := prefixerStart f'.1
  let p' := feed (pipe framerByte serial) p.2 p.1
  let b := feed (pipe (prefixerByte w h) (pipe framerByte serial)) px p'.1
  let e := imageEnd b.1
  (e.1, r.2 ++ f'.2 ++ p'.2 ++ b.2 ++ e.2)

/-- The RESULT and OUT values of a command whose checks passed, by the unit transitions, from any
content `u` of the unit registers. -/
def streamOf (i : Instr) (p : Pend) (input : Bytes) (u : Units) : Word × Bytes :=
  match i with
  | .crc32    => (crcStream input u, [])
  | .adler32  => (adlerStream input u, [])
  | .pack     => (0, (framerRun p.n input u).2)
  | .chunk    => (0, (serialiserRun p.tag p.n input u).2)
  | .assemble => (0, (assembleStream p.w p.h p.n input u).2)
  | .filter   => (0, (prefixerRun p.w p.h input u).2)
  | .encode   => (0, (encodeStream p.w p.h input u).2)

end Sys2Proof.Machine
end

