-- ==== Sys2Proof/Safety.lean ====
section
/-! DEFINITION. What counts as a legal state, the end of a run and a safe run, in the terms claims use. -/

namespace Sys2Proof.Machine

/-- The values STATUS takes (95_test_vectors.md conventions; 10_state.md R22, 60_exceptions.md R206):
idle after reset, busy, done, done with an error, fatal. -/
def legalStatus (w : Word) : Bool :=
  [0x000#32, 0x001#32, 0x002#32, 0x102#32, 0x202#32, 0x402#32, 0x502#32, 0x306#32].contains w

/-- STATUS shows a legal combination: reserved bits 0, never BUSY and DONE, FATAL only with code 3
(10_state.md R22, 60_exceptions.md R206, R216). -/
def State.statusLegal (s : State) : Prop := legalStatus s.status = true

/-- OUT_LEN is the length of OUT, which fits 32 bits (10_state.md R28, R36). While BUSY = 1 OUT and
OUT_LEN cannot be observed; the model keeps the last command's there. -/
def State.outLenRight (s : State) : Prop := s.outLen.toNat = s.out.length

/-- The invariant every step keeps. -/
structure State.Inv (s : State) : Prop where
  srcCanonical : Memory.wf s.src
  statusLegal : s.statusLegal
  outLenRight : s.outLenRight

/-- Both agents are through: the host has no step left and no completion is owed (70_reset_and_hazards.md R241). -/
def State.final (s : State) : Bool := s.program.isEmpty && !s.busy

/-- A final state that records a broken invariant of an implementation (70_reset_and_hazards.md R241).
DEDUCED (log 27): R241 calls a state with FATAL = 1 final without naming the host; the model counts it
as final, like every other state, only once the host has taken its last step. -/
def State.finalBad (s : State) : Bool := s.final && s.fatal

/-- The host may issue a command that will not be dropped (70_reset_and_hazards.md R233). -/
def State.ready (s : State) : Bool := !s.busy && !s.fatal

/-- What the host can see of a state once BUSY = 0 (20_memory.md R51). -/
structure Visible where
  status : Word
  width : Word
  height : Word
  srcLen : Word
  typeTag : Word
  result : Word
  outLen : Word
  out : Bytes
  deriving DecidableEq, Repr

/-- The host-visible registers and OUT of a state. -/
def State.visible (s : State) : Visible :=
  { status := s.status, width := s.width, height := s.height, srcLen := s.srcLen,
    typeTag := s.typeTag, result := s.result, outLen := s.outLen, out := s.out }

/-- The bits of STATUS no completion writes are as before (10_state.md R22). -/
structure State.SameReserved (s t : State) : Prop where
  low : statusReservedLow t.status = statusReservedLow s.status
  high : statusReservedHigh t.status = statusReservedHigh s.status

/-- What no completion changes (60_exceptions.md R202): the operand registers, every byte of SRC, the
reserved bits of STATUS, and the host's side. PEND and the unit registers are not listed: they are
unspecified between commands (10_state.md R31 to R34). -/
structure State.CompletionFrame (s t : State) : Prop where
  width : t.width = s.width
  height : t.height = s.height
  srcLen : t.srcLen = s.srcLen
  typeTag : t.typeTag = s.typeTag
  srcBytes : ∀ a, t.srcByte a = s.srcByte a
  src : t.src = s.src
  reserved : State.SameReserved s t
  program : t.program = s.program
  readings : t.readings = s.readings
  turns : t.turns = s.turns

/-- `t` is `s` after a completion without error (60_exceptions.md R202): RESULT, OUT, OUT_LEN and the
fields of STATUS have these values, and nothing of `CompletionFrame` changed. -/
structure State.CompletedOk (s t : State) (result : Word) (bytes : Bytes) : Prop where
  resultIs : t.result = result
  outIs : t.out = bytes
  outLenIs : t.outLen.toNat = bytes.length
  busy : t.busy = false
  done : t.done = true
  err : t.err = 0#4
  fatal : t.fatal = s.fatal
  frame : State.CompletionFrame s t

/-- `t` is `s` after a completion with the error `e` (60_exceptions.md R202, R210, R216): RESULT and
OUT_LEN 0, OUT empty, the code in ERR; PEND and the unit registers unchanged too. -/
structure State.CompletedErr (s t : State) (e : CoreError) : Prop where
  resultIs : t.result = 0
  outIs : t.out = []
  outLenIs : t.outLen = 0
  busy : t.busy = false
  done : t.done = true
  err : t.err = errorCode e
  fatal : t.fatal = (s.fatal || e == .internalInvariantViolation)
  pend : t.pend = s.pend
  units : t.units = s.units
  frame : State.CompletionFrame s t

/-- `k` steps from `s`, stopping at the first fault or refusal. -/
def runFor : Nat → State → Host.Outcome State Fault Refusal
  | 0, s => .next s
  | k + 1, s =>
    match step s with
    | .next s' => runFor k s'
    | .fault r => .fault r
    | .refused r => .refused r

end Sys2Proof.Machine
end

