-- ==== Sys2Proof/Certificates/Slice0/Obligations.lean ====
section
/-! DEFINITION. The statements about the model, from the numbered rules of spec/. -/

open Sys2Proof Sys2Proof.Machine

/-! ### Two vectors of the spec -/

/-- 95_test_vectors.md V-E2: the PNG of one transparent black pixel. -/
def imageOnePixel : Bytes :=
  [0x89#8, 0x50#8, 0x4E#8, 0x47#8, 0x0D#8, 0x0A#8, 0x1A#8, 0x0A#8, 0x00#8, 0x00#8, 0x00#8, 0x0D#8,
   0x49#8, 0x48#8, 0x44#8, 0x52#8, 0x00#8, 0x00#8, 0x00#8, 0x01#8, 0x00#8, 0x00#8, 0x00#8, 0x01#8,
   0x08#8, 0x06#8, 0x00#8, 0x00#8, 0x00#8, 0x1F#8, 0x15#8, 0xC4#8, 0x89#8, 0x00#8, 0x00#8, 0x00#8,
   0x10#8, 0x49#8, 0x44#8, 0x41#8, 0x54#8, 0x78#8, 0x01#8, 0x01#8, 0x05#8, 0x00#8, 0xFA#8, 0xFF#8,
   0x00#8, 0x00#8, 0x00#8, 0x00#8, 0x00#8, 0x00#8, 0x05#8, 0x00#8, 0x01#8, 0x64#8, 0x78#8, 0x95#8,
   0x38#8, 0x00#8, 0x00#8, 0x00#8, 0x00#8, 0x49#8, 0x45#8, 0x4E#8, 0x44#8, 0xAE#8, 0x42#8, 0x60#8,
   0x82#8]

/-- 95_test_vectors.md V-E1: the PNG of the 2 by 2 image of the document's end-to-end scenario. -/
def imageTwoByTwo : Bytes :=
  [0x89#8, 0x50#8, 0x4E#8, 0x47#8, 0x0D#8, 0x0A#8, 0x1A#8, 0x0A#8, 0x00#8, 0x00#8, 0x00#8, 0x0D#8,
   0x49#8, 0x48#8, 0x44#8, 0x52#8, 0x00#8, 0x00#8, 0x00#8, 0x02#8, 0x00#8, 0x00#8, 0x00#8, 0x02#8,
   0x08#8, 0x06#8, 0x00#8, 0x00#8, 0x00#8, 0x72#8, 0xB6#8, 0x0D#8, 0x24#8, 0x00#8, 0x00#8, 0x00#8,
   0x1D#8, 0x49#8, 0x44#8, 0x41#8, 0x54#8, 0x78#8, 0x01#8, 0x01#8, 0x12#8, 0x00#8, 0xED#8, 0xFF#8,
   0x00#8, 0xFF#8, 0x00#8, 0x00#8, 0xFF#8, 0x00#8, 0xFF#8, 0x00#8, 0xFF#8, 0x00#8, 0x00#8, 0x00#8,
   0xFF#8, 0xFF#8, 0xFF#8, 0xFF#8, 0xFF#8, 0x00#8, 0x48#8, 0xC9#8, 0x08#8, 0xF8#8, 0x57#8, 0x15#8,
   0xB0#8, 0x15#8, 0x00#8, 0x00#8, 0x00#8, 0x00#8, 0x49#8, 0x45#8, 0x4E#8, 0x44#8, 0xAE#8, 0x42#8,
   0x60#8, 0x82#8]

/-! ### Encoding -/

/-- 30_encoding.md R84: the seven command words, written out, decode to their commands. -/
def Obligations.CommandWordsDecode : Prop :=
  decode 0x00000001#32 = .command .crc32 ∧ decode 0x00000002#32 = .command .adler32 ∧
  decode 0x00000003#32 = .command .pack ∧ decode 0x00000004#32 = .command .chunk ∧
  decode 0x00000005#32 = .command .assemble ∧ decode 0x00000006#32 = .command .filter ∧
  decode 0x00000007#32 = .command .encode

/-- 30_encoding.md R84: the opcode map; a word decodes to a command exactly when it is that command's
word, and every word other than 1 to 7 is illegal. -/
def Obligations.DecodeInvertsEncode : Prop :=
  encode .crc32 = 0x00000001#32 ∧ encode .adler32 = 0x00000002#32 ∧ encode .pack = 0x00000003#32 ∧
  encode .chunk = 0x00000004#32 ∧ encode .assemble = 0x00000005#32 ∧ encode .filter = 0x00000006#32 ∧
  encode .encode = 0x00000007#32 ∧
  (∀ (w : Word) (i : Instr), decode w = .command i ↔ w = encode i) ∧
  (∀ w : Word, (∃ why, decode w = .illegal why) ↔ (w.toNat = 0 ∨ 7 < w.toNat))

/-- 30_encoding.md R85, 60_exceptions.md R212: an illegal word is issued like a command and completes
with IllegalCommand, and which SRC bytes there are makes no difference. -/
def Obligations.IllegalWordCompletesWithCode5 : Prop :=
  ∀ (s : State) (w : Word), (w.toNat = 0 ∨ 7 < w.toNat) →
    (s.ready = true → access (.writeReg 0x00 32 w) s = .next (s.issued w)) ∧
    (s.busy = true → s.pend.op = w →
      ∃ t, coreStep s = .next t ∧ State.CompletedErr s t .illegalCommand ∧ t.err = 5#4 ∧
        ∀ m : Memory, coreStep { s with src := m } = .next { t with src := m })

/-! ### Fetch, issue, dispatch -/

/-- 60_exceptions.md R202, R205: on the core's turn, with a command latched and BUSY = 1, a step is
`exec` of the decoded command after the turn is used up; and a word placed by `withFetchWord` is run
by the very next step. The turns (log 1) and `withFetchWord` (log 2) are the model's choice. -/
def Obligations.StepRunsLatchedCommand : Prop :=
  (∀ s : State, s.passTurn = { s with turns := s.turns.tail }) ∧
  (∀ (s : State) (i : Instr), s.mover = .core → s.busy = true → decode s.pend.op = .command i →
    step s = exec i s.passTurn) ∧
  (∀ (s : State) (i : Instr), step (s.withFetchWord 32 (encode i).toNat) =
    exec i (s.withFetchWord 32 (encode i).toNat).passTurn)

/-- 60_exceptions.md R201: a write of `v` to CMD. -/
def Obligations.IssueLatchesOperands : Prop :=
  ∀ (s : State) (v : Word),
    ((s.fatal = true ∨ s.busy = true) → access (.writeReg 0x00 32 v) s = .next s) ∧
    (s.fatal = false → s.busy = false →
      ∃ t, access (.writeReg 0x00 32 v) s = .next t ∧
        t.pend = { op := v, w := s.width, h := s.height, n := s.srcLen, t := s.typeTag } ∧
        t.busy = true ∧ t.done = false ∧ t.err = 0#4 ∧ t.fatal = false ∧ State.SameReserved s t ∧
        t = { s with pend := t.pend, status := t.status } ∧
        (readRegister 0x18 t).1 = Config.freeValue 32 t.draws ∧
        (readRegister 0x1C t).1 = Config.freeValue 32 t.draws ∧
        (∀ i, (readOutByte i t).1 = Config.freeValue 8 t.draws))

/-! ### The commands -/

/-- 40_checksum.md R107: CRC32. `CompletedOk` says what stays; PEND and the unit registers, unspecified
from a completion on, are not among it (log 5). -/
def Obligations.Crc32CommandGivesChecksum : Prop :=
  encode .crc32 = 0x00000001#32 ∧
  (∀ s : State, ∃ t, exec .crc32 s = .next t ∧
    State.CompletedOk s t (crc32 (s.srcBuf s.pend.n.toNat)) []) ∧
  crc32 [] = 0x00000000#32 ∧ crc32 [0x00#8] = 0xD202EF8D#32 ∧
  crc32 [0x31#8, 0x32#8, 0x33#8, 0x34#8, 0x35#8, 0x36#8, 0x37#8, 0x38#8, 0x39#8] = 0xCBF43926#32

/-- 40_checksum.md R114: ADLER32. `CompletedOk` says what stays; PEND and the unit registers, unspecified
from a completion on, are not among it (log 5). -/
def Obligations.Adler32CommandGivesChecksum : Prop :=
  encode .adler32 = 0x00000002#32 ∧
  (∀ s : State, ∃ t, exec .adler32 s = .next t ∧
    State.CompletedOk s t (adler32 (s.srcBuf s.pend.n.toNat)) []) ∧
  adler32 [] = 0x00000001#32 ∧
  adler32 [0x57#8, 0x69#8, 0x6B#8, 0x69#8, 0x70#8, 0x65#8, 0x64#8, 0x69#8, 0x61#8] = 0x11E60398#32 ∧
  (adlerRun adlerInit (List.replicate 256 0xFF#8)).a.toNat = 1 + 255 * 256 ∧
  adler32 (List.replicate 257 0xFF#8) = 0x080F000F#32

/-- 41_stored_deflate.md R141: PACK. -/
def Obligations.PackCommandGivesStream : Prop :=
  encode .pack = 0x00000003#32 ∧
  (∀ s : State,
    (s.pend.n.toNat ≤ 4294639624 → ∃ t, exec .pack s = .next t ∧
      State.CompletedOk s t 0
        ([0x78#8, 0x01#8] ++ blocks (s.srcBuf s.pend.n.toNat) ++ be32 (adler32 (s.srcBuf s.pend.n.toNat)))) ∧
    (4294639624 < s.pend.n.toNat → ∃ t, exec .pack s = .next t ∧
      State.CompletedErr s t .lengthOverflow)) ∧
  (∀ n : Nat, n + 5 * ((max n 1 + 65534) / 65535) + 6 ≤ 4294967295 ↔ n ≤ 4294639624) ∧
  (blockCount 4294639624 = 65533 ∧ packLength 4294639624 = 4294967295 ∧
    blockCount 4294639625 = 65533 ∧ packLength 4294639625 = 4294967296 ∧
    blockCount 65535 = 1 ∧ blockCount 65536 = 2) ∧
  pack [] = [0x78#8, 0x01#8, 0x01#8, 0x00#8, 0x00#8, 0xFF#8, 0xFF#8, 0x00#8, 0x00#8, 0x00#8, 0x01#8] ∧
  pack [0x61#8, 0x62#8, 0x63#8] =
    [0x78#8, 0x01#8, 0x01#8, 0x03#8, 0x00#8, 0xFC#8, 0xFF#8, 0x61#8, 0x62#8, 0x63#8, 0x02#8, 0x4D#8,
      0x01#8, 0x27#8]

/-- 42_chunk.md R160: CHUNK. -/
def Obligations.ChunkCommandGivesChunk : Prop :=
  encode .chunk = 0x00000004#32 ∧
  (∀ s : State,
    (s.pend.n.toNat ≤ 4294967283 → ∃ t, exec .chunk s = .next t ∧
      State.CompletedOk s t 0
        (be32 s.pend.n ++ be32 s.pend.t ++ s.srcBuf s.pend.n.toNat ++
          be32 (crc32 (be32 s.pend.t ++ s.srcBuf s.pend.n.toNat)))) ∧
    (4294967283 < s.pend.n.toNat → ∃ t, exec .chunk s = .next t ∧
      State.CompletedErr s t .lengthOverflow)) ∧
  chunk (be32 0x49454E44#32) [] =
    [0x00#8, 0x00#8, 0x00#8, 0x00#8, 0x49#8, 0x45#8, 0x4E#8, 0x44#8, 0xAE#8, 0x42#8, 0x60#8, 0x82#8] ∧
  chunk (be32 0#32) [] =
    [0x00#8, 0x00#8, 0x00#8, 0x00#8, 0x00#8, 0x00#8, 0x00#8, 0x00#8, 0x21#8, 0x44#8, 0xDF#8, 0x1C#8]

/-- 42_chunk.md R161: ASSEMBLE, with the default MAX_DIM. -/
def Obligations.AssembleCommandGivesFile : Prop :=
  encode .assemble = 0x00000005#32 ∧
  (∀ s : State,
    ((s.pend.w = 0 ∨ s.pend.h = 0) → ∃ t, exec .assemble s = .next t ∧
      State.CompletedErr s t .invalidDimensions) ∧
    (s.pend.w ≠ 0 → s.pend.h ≠ 0 → 4294967238 < s.pend.n.toNat → ∃ t, exec .assemble s = .next t ∧
      State.CompletedErr s t .lengthOverflow) ∧
    (s.pend.w ≠ 0 → s.pend.h ≠ 0 → s.pend.n.toNat ≤ 4294967238 → ∃ t, exec .assemble s = .next t ∧
      State.CompletedOk s t 0
        (assemble (ihdrPayload s.pend.w s.pend.h) (s.srcBuf s.pend.n.toNat)))) ∧
  chunk tagIDAT [] =
    [0x00#8, 0x00#8, 0x00#8, 0x00#8, 0x49#8, 0x44#8, 0x41#8, 0x54#8, 0x35#8, 0xAF#8, 0x06#8, 0x1E#8] ∧
  assemble (ihdrPayload 1 1)
    [0x78#8, 0x01#8, 0x01#8, 0x05#8, 0x00#8, 0xFA#8, 0xFF#8, 0x00#8, 0x00#8, 0x00#8, 0x00#8, 0x00#8,
      0x00#8, 0x05#8, 0x00#8, 0x01#8] = imageOnePixel ∧
  imageOnePixel.length = 73

/-- 43_filter.md R175: FILTER, with the default MAX_DIM. -/
def Obligations.FilterCommandGivesScanlines : Prop :=
  encode .filter = 0x00000006#32 ∧
  (∀ s : State,
    ((s.pend.w = 0 ∨ s.pend.h = 0) → ∃ t, exec .filter s = .next t ∧
      State.CompletedErr s t .invalidDimensions) ∧
    (s.pend.w ≠ 0 → s.pend.h ≠ 0 → s.pend.n.toNat ≠ s.pend.w.toNat * s.pend.h.toNat * 4 →
      ∃ t, exec .filter s = .next t ∧ State.CompletedErr s t .bufferLengthMismatch) ∧
    (s.pend.w ≠ 0 → s.pend.h ≠ 0 → s.pend.n.toNat = s.pend.w.toNat * s.pend.h.toNat * 4 →
      4294967295 < s.pend.h.toNat * (1 + 4 * s.pend.w.toNat) →
      ∃ t, exec .filter s = .next t ∧ State.CompletedErr s t .lengthOverflow) ∧
    (s.pend.w ≠ 0 → s.pend.h ≠ 0 → s.pend.n.toNat = s.pend.w.toNat * s.pend.h.toNat * 4 →
      s.pend.h.toNat * (1 + 4 * s.pend.w.toNat) ≤ 4294967295 →
      ∃ t, exec .filter s = .next t ∧
        State.CompletedOk s t 0
          (filterImage (s.srcBuf s.pend.n.toNat) s.pend.w.toNat s.pend.h.toNat))) ∧
  filterImage [0xFF#8, 0x00#8, 0x00#8, 0xFF#8, 0x00#8, 0xFF#8, 0x00#8, 0xFF#8, 0x00#8, 0x00#8, 0xFF#8,
      0xFF#8, 0xFF#8, 0xFF#8, 0xFF#8, 0x00#8] 2 2 =
    [0x00#8, 0xFF#8, 0x00#8, 0x00#8, 0xFF#8, 0x00#8, 0xFF#8, 0x00#8, 0xFF#8, 0x00#8, 0x00#8, 0x00#8,
      0xFF#8, 0xFF#8, 0xFF#8, 0xFF#8, 0xFF#8, 0x00#8]

/-- 44_encode.md R184: ENCODE, with the default MAX_DIM. -/
def Obligations.EncodeCommandGivesImage : Prop :=
  encode .encode = 0x00000007#32 ∧
  (∀ s : State,
    ((s.pend.w = 0 ∨ s.pend.h = 0) → ∃ t, exec .encode s = .next t ∧
      State.CompletedErr s t .invalidDimensions) ∧
    (s.pend.w ≠ 0 → s.pend.h ≠ 0 → s.pend.n.toNat ≠ s.pend.w.toNat * s.pend.h.toNat * 4 →
      ∃ t, exec .encode s = .next t ∧ State.CompletedErr s t .bufferLengthMismatch) ∧
    (s.pend.w ≠ 0 → s.pend.h ≠ 0 → s.pend.n.toNat = s.pend.w.toNat * s.pend.h.toNat * 4 →
      4294639572 < s.pend.h.toNat * (1 + 4 * s.pend.w.toNat) →
      ∃ t, exec .encode s = .next t ∧ State.CompletedErr s t .lengthOverflow) ∧
    (s.pend.w ≠ 0 → s.pend.h ≠ 0 → s.pend.n.toNat = s.pend.w.toNat * s.pend.h.toNat * 4 →
      s.pend.h.toNat * (1 + 4 * s.pend.w.toNat) ≤ 4294639572 →
      ∃ t, exec .encode s = .next t ∧
        State.CompletedOk s t 0
          (assemble (ihdrPayload s.pend.w s.pend.h)
            (pack (filterImage (s.srcBuf s.pend.n.toNat) s.pend.w.toNat s.pend.h.toNat))))) ∧
  (∀ L : Nat, 1 ≤ L → (63 + L + 5 * ((L + 65534) / 65535) ≤ 4294967295 ↔ L ≤ 4294639572)) ∧
  encodeImage [0x00#8, 0x00#8, 0x00#8, 0x00#8] 1 1 = imageOnePixel ∧
  encodeImage [0xFF#8, 0x00#8, 0x00#8, 0xFF#8, 0x00#8, 0xFF#8, 0x00#8, 0xFF#8, 0x00#8, 0x00#8, 0xFF#8,
      0xFF#8, 0xFF#8, 0xFF#8, 0xFF#8, 0x00#8] 2 2 = imageTwoByTwo ∧
  imageTwoByTwo.length = 86

/-! ### Errors -/

/-- 60_exceptions.md R207: InvalidDimensions, for every legal MAX_DIM. -/
def Obligations.InvalidDimensionsExactlyWhen : Prop :=
  (∀ (i : Instr) (c : Config) (p : Pend) (input : Bytes),
    outcomeOf i c p input = .err .invalidDimensions ↔
      (i = .assemble ∨ i = .filter ∨ i = .encode) ∧
      (p.w.toNat = 0 ∨ p.h.toNat = 0 ∨ c.maxDim < p.w.toNat ∨ c.maxDim < p.h.toNat)) ∧
  (∀ p : Pend, ¬ (Config.machine.maxDim < p.w.toNat) ∧ ¬ (Config.machine.maxDim < p.h.toNat))

/-- 60_exceptions.md R208: BufferLengthMismatch, the product exact. -/
def Obligations.LengthMismatchExactlyWhen : Prop :=
  (∀ (i : Instr) (c : Config) (p : Pend) (input : Bytes),
    outcomeOf i c p input = .err .bufferLengthMismatch ↔
      (i = .filter ∨ i = .encode) ∧
      ¬ (p.w.toNat = 0 ∨ p.h.toNat = 0 ∨ c.maxDim < p.w.toNat ∨ c.maxDim < p.h.toNat) ∧
      p.n.toNat ≠ p.w.toNat * p.h.toNat * 4) ∧
  (∀ p : Pend, 4294967295 < p.w.toNat * p.h.toNat * 4 → p.n.toNat ≠ p.w.toNat * p.h.toNat * 4)

/-- 60_exceptions.md R211: LengthOverflow, per command. -/
def Obligations.LengthOverflowExactlyWhen : Prop :=
  ∀ (c : Config) (p : Pend) (input : Bytes),
    outcomeOf .crc32 c p input ≠ .err .lengthOverflow ∧
    outcomeOf .adler32 c p input ≠ .err .lengthOverflow ∧
    (outcomeOf .pack c p input = .err .lengthOverflow ↔ 4294639624 < p.n.toNat) ∧
    (outcomeOf .chunk c p input = .err .lengthOverflow ↔ 4294967283 < p.n.toNat) ∧
    (¬ (p.w.toNat = 0 ∨ p.h.toNat = 0 ∨ c.maxDim < p.w.toNat ∨ c.maxDim < p.h.toNat) →
      (outcomeOf .assemble c p input = .err .lengthOverflow ↔ 4294967238 < p.n.toNat) ∧
      (p.n.toNat = p.w.toNat * p.h.toNat * 4 →
        (outcomeOf .filter c p input = .err .lengthOverflow ↔
          4294967295 < p.h.toNat * (1 + 4 * p.w.toNat)) ∧
        (outcomeOf .encode c p input = .err .lengthOverflow ↔
          4294639572 < p.h.toNat * (1 + 4 * p.w.toNat))))

/-- 60_exceptions.md R209, 41_stored_deflate.md R140: no operand value and no SRC content makes a
command raise InternalInvariantViolation. -/
def Obligations.InvariantViolationUnreachable : Prop :=
  ∀ (c : Config) (p : Pend) (input : Bytes),
    (∀ i : Instr, outcomeOf i c p input ≠ .err .internalInvariantViolation) ∧
    outcomeOfWord c p input ≠ .err .internalInvariantViolation

/-- 60_exceptions.md R213: the first error that applies, in the rule's order, is the one reported, and
errors are functions of PEND alone; with the rule's three examples, and the numbers R206 gives the
errors in STATUS.ERR. -/
def Obligations.ErrorPriorityByOperands : Prop :=
  (errorCode .invalidDimensions = 1#4 ∧ errorCode .bufferLengthMismatch = 2#4 ∧
    errorCode .internalInvariantViolation = 3#4 ∧ errorCode .lengthOverflow = 4#4 ∧
    errorCode .illegalCommand = 5#4) ∧
  (∀ (c : Config) (p : Pend) (input : Bytes), (p.op.toNat = 0 ∨ 7 < p.op.toNat) →
    outcomeOfWord c p input = .err .illegalCommand) ∧
  (∀ (i : Instr) (c : Config) (p : Pend) (a b : Bytes) (e : CoreError),
    outcomeOf i c p a = .err e → outcomeOf i c p b = .err e) ∧
  (∀ (c : Config) (p : Pend) (input : Bytes),
    ((p.w.toNat = 0 ∨ p.h.toNat = 0 ∨ c.maxDim < p.w.toNat ∨ c.maxDim < p.h.toNat) →
      outcomeOf .assemble c p input = .err .invalidDimensions ∧
      outcomeOf .filter c p input = .err .invalidDimensions ∧
      outcomeOf .encode c p input = .err .invalidDimensions) ∧
    (¬ (p.w.toNat = 0 ∨ p.h.toNat = 0 ∨ c.maxDim < p.w.toNat ∨ c.maxDim < p.h.toNat) →
      (p.n.toNat ≠ p.w.toNat * p.h.toNat * 4 →
        outcomeOf .filter c p input = .err .bufferLengthMismatch ∧
        outcomeOf .encode c p input = .err .bufferLengthMismatch) ∧
      (p.n.toNat = p.w.toNat * p.h.toNat * 4 →
        (4294967295 < p.h.toNat * (1 + 4 * p.w.toNat) →
          outcomeOf .filter c p input = .err .lengthOverflow) ∧
        (4294639572 < p.h.toNat * (1 + 4 * p.w.toNat) →
          outcomeOf .encode c p input = .err .lengthOverflow)))) ∧
  (∀ (t : Word) (a : Bytes),
    outcomeOf .encode Config.machine { op := 7, w := 0, h := 5, n := 7, t := t } a = .err .invalidDimensions ∧
    outcomeOf .filter Config.machine { op := 6, w := 1, h := 1073741823, n := 4294967292, t := t } a =
      .err .lengthOverflow ∧
    outcomeOf .filter Config.machine { op := 6, w := 1, h := 1073741823, n := 4, t := t } a =
      .err .bufferLengthMismatch)

/-- 60_exceptions.md R210: what raising an error does, and that nothing else changes. The counter
`completions` is the model's own (log 18). -/
def Obligations.FailedCommandChangesOnlyResults : Prop :=
  ∀ (s : State) (e : CoreError), s.busy = true →
    outcomeOfWord Config.machine s.pend (s.srcBuf s.pend.n.toNat) = .err e →
    ∃ t, coreStep s = .next t ∧
      t.err = errorCode e ∧ t.result = 0 ∧ t.out = [] ∧ t.outLen = 0 ∧ t.busy = false ∧ t.done = true ∧
      t.fatal = s.fatal ∧ State.SameReserved s t ∧ (∀ a, t.srcByte a = s.srcByte a) ∧
      t = { s with status := t.status, result := 0, out := [], outLen := 0,
                   completions := s.completions + 1 }

/-! ### Purity, protocol, reset -/

/-- 60_exceptions.md R203: what a completion leaves in ERR, RESULT, OUT_LEN and OUT is a function of
PEND and of the SRC bytes below `PEND.n`. -/
def Obligations.CompletionIsHistoryFree : Prop :=
  ∀ s s' : State, s.busy = true → s'.busy = true → s.pend = s'.pend →
    (∀ a, a < s.pend.n.toNat → s.srcByte a = s'.srcByte a) →
    ∃ t t', coreStep s = .next t ∧ coreStep s' = .next t' ∧
      t.err = t'.err ∧ t.result = t'.result ∧ t.outLen = t'.outLen ∧ t.out = t'.out

/-- 70_reset_and_hazards.md R237: a host write to an operand register while BUSY = 1 changes that
register at once and does not affect the command in progress. -/
def Obligations.OperandWriteLeavesCommandAlone : Prop :=
  ∀ (s : State) (v : Word) (o : Nat), s.busy = true → (o = 0x08 ∨ o = 0x0C ∨ o = 0x10 ∨ o = 0x14) →
    ∃ u t t', access (.writeReg o 32 v) s = .next u ∧ (readRegister o u).1 = v ∧ u.busy = true ∧
      coreStep u = .next t ∧ coreStep s = .next t' ∧
      t.status = t'.status ∧ t.result = t'.result ∧ t.outLen = t'.outLen ∧ t.out = t'.out ∧
      (readRegister o t).1 = v ∧ ∀ w, (t.latch w) = (u.latch w)

/-- 70_reset_and_hazards.md R230, 10_state.md R38: reset, whatever the core was doing. PEND and the
unit registers hold the values log 3 names (DESIGN CHOICE), every SRC byte a free value (log 4). -/
def Obligations.ResetClearsTheCore : Prop :=
  ∀ s : State, ∃ t, access .reset s = .next t ∧
    t.status = 0 ∧ t.width = 0 ∧ t.height = 0 ∧ t.srcLen = 0 ∧ t.typeTag = 0 ∧ t.result = 0 ∧
    t.outLen = 0 ∧ t.out = [] ∧ t.pend = State.reset.pend ∧ t.units = State.reset.units ∧
    (∀ a, t.srcByte a = Config.unwrittenSrc (s.resets + 1) a) ∧
    t.program = s.program ∧ t.readings = s.readings ∧ t.turns = s.turns

/-- 70_reset_and_hazards.md R242: reset while BUSY = 1 abandons the command, and besides completion it
is the only way to end one, and the only way to clear FATAL. -/
def Obligations.OnlyCompletionOrResetEndsCommand : Prop :=
  (∀ s : State, s.busy = true → ∃ t, access .reset s = .next t ∧ t.status = 0 ∧ t.out = [] ∧
    coreStep t = .next t) ∧
  (∀ s t : State, step s = .next t → s.busy = true → t.busy = false →
    s.mover = .core ∨ (s.mover = .host ∧ ∃ rest, s.program = .access .reset :: rest)) ∧
  (∀ s t : State, step s = .next t → s.fatal = true → t.fatal = false →
    s.mover = .host ∧ ∃ rest, s.program = .access .reset :: rest)

/-- 60_exceptions.md R216: code 3 sets FATAL; with STATUS = 0x306 every CMD write is dropped and STATUS
stays until reset, while every register that has a value can be read, every operand register written, and
SRC both. -/
def Obligations.FatalHoldsUntilReset : Prop :=
  (∀ s : State, (s.complete (.err .internalInvariantViolation)).fatal = true) ∧
  (∀ s : State, s.status = 1#32 → (s.complete (.err .internalInvariantViolation)).status = 0x00000306#32) ∧
  (∀ (s : State) (v : Word), s.fatal = true → access (.writeReg 0x00 32 v) s = .next s) ∧
  (∀ s t : State, s.status = 0x00000306#32 → step s = .next t →
    t.status = 0x00000306#32 ∨ (s.mover = .host ∧ ∃ rest, s.program = .access .reset :: rest)) ∧
  (∀ (s : State) (a : Nat) (v : Word) (b : Byte), s.status = 0x00000306#32 → a < 4294967296 →
    access (.writeReg 0x08 32 v) s = .next { s with width := v } ∧
    access (.writeReg 0x0C 32 v) s = .next { s with height := v } ∧
    access (.writeReg 0x10 32 v) s = .next { s with srcLen := v } ∧
    access (.writeReg 0x14 32 v) s = .next { s with typeTag := v } ∧
    access (.readReg 0x04 32) s = .next (s.pushReading (.word 0x00000306#32)) ∧
    access (.readReg 0x08 32) s = .next (s.pushReading (.word s.width)) ∧
    access (.readReg 0x0C 32) s = .next (s.pushReading (.word s.height)) ∧
    access (.readReg 0x10 32) s = .next (s.pushReading (.word s.srcLen)) ∧
    access (.readReg 0x14 32) s = .next (s.pushReading (.word s.typeTag)) ∧
    access (.readReg 0x18 32) s = .next (s.pushReading (.word s.result)) ∧
    access (.readReg 0x1C 32) s = .next (s.pushReading (.word s.outLen)) ∧
    access (.readSrc a 8) s = .next (s.pushReading (.byte (s.srcByte a))) ∧
    ∃ t, access (.writeSrc a 8 b) s = .next t ∧ t.srcByte a = b)

/-- 60_exceptions.md R209 (no command raises code 3): no step of either agent sets FATAL. -/
def Obligations.NoStepSetsFatal : Prop :=
  ∀ s t : State, step s = .next t → s.fatal = false → t.fatal = false

/-- 10_state.md R22, the columns Set by and Cleared by: STATUS changes only at a completion, at an
issue that is not dropped, or at reset; BUSY rises only at that issue, DONE only at a completion. -/
def Obligations.StatusChangesOnlyByProtocol : Prop :=
  ∀ s t : State, step s = .next t →
    (t.status ≠ s.status →
      (s.mover = .core ∧ s.busy = true) ∨
      (s.mover = .host ∧ s.ready = true ∧
        ∃ v rest, s.program = .access (.writeReg 0x00 32 v) :: rest ∧ t.pend = s.latch v) ∨
      (s.mover = .host ∧ ∃ rest, s.program = .access .reset :: rest)) ∧
    (s.busy = false → t.busy = true →
      s.mover = .host ∧ s.ready = true ∧
        ∃ v rest, s.program = .access (.writeReg 0x00 32 v) :: rest ∧ t.pend = s.latch v) ∧
    (s.done = false → t.done = true → s.mover = .core ∧ s.busy = true)

/-- The reset state meets the invariant. -/
def Obligations.ResetMeetsInvariant : Prop := State.reset.Inv

/-- Every step keeps SRC in canonical form, STATUS a legal combination (10_state.md R22,
60_exceptions.md R206, R216) and OUT_LEN the length of OUT (10_state.md R28). -/
def Obligations.EveryStepKeepsInvariant : Prop :=
  ∀ s t : State, s.Inv → step s = .next t → t.Inv

/-- 10_state.md R23 to R26, R35: the core's step writes no operand register and no SRC byte. -/
def Obligations.CoreNeverWritesOperandsOrSrc : Prop :=
  ∀ s t : State, coreStep s = .next t →
    t.width = s.width ∧ t.height = s.height ∧ t.srcLen = s.srcLen ∧ t.typeTag = s.typeTag ∧
    t.src = s.src ∧ ∀ a, t.srcByte a = s.srcByte a

/-! ### Host accesses -/

/-- 10_state.md R29: reserved offsets read 0 and ignore writes; accesses of another width or at
another alignment are not part of the interface, and (20_memory.md R55) neither is an SRC access or an
OUT read that is not one byte wide (refused, log 9). -/
def Obligations.ReservedOffsetsReadZero : Prop :=
  (∀ (s : State) (o : Nat) (v : Word), o % 4 = 0 → 0x20 ≤ o →
    access (.readReg o 32) s = .next (s.pushReading (.word 0#32)) ∧
    access (.writeReg o 32 v) s = .next s) ∧
  (∀ (s : State) (o b : Nat) (v : Word), (b ≠ 32 ∨ o % 4 ≠ 0) →
    access (.readReg o b) s = .refused .notInTheInterface ∧
    access (.writeReg o b v) s = .refused .notInTheInterface) ∧
  (∀ (s : State) (x b : Nat) (v : Byte), b ≠ 8 →
    access (.readSrc x b) s = .refused .notInTheInterface ∧
    access (.writeSrc x b v) s = .refused .notInTheInterface ∧
    access (.readOut x b) s = .refused .notInTheInterface)

/-- 20_memory.md R56: reads are idempotent but for RESULT, OUT_LEN and OUT while BUSY = 1; operand
register and SRC writes only store the value; writes to STATUS, RESULT and OUT_LEN do nothing.
`pushReading` hands the value to the host, no state of the core. -/
def Obligations.AccessSideEffects : Prop :=
  (∀ (s t : State) (a : Access), access a s = .next t →
    ((∃ o b, a = .readReg o b ∧ (s.busy = false ∨ (o ≠ 0x18 ∧ o ≠ 0x1C))) ∨ (∃ x b, a = .readSrc x b) ∨
      (∃ i b, a = .readOut i b ∧ s.busy = false)) →
    ∃ v, t = s.pushReading v ∧ access a t = .next (t.pushReading v)) ∧
  (∀ (s : State) (v : Word),
    access (.writeReg 0x08 32 v) s = .next { s with width := v } ∧
    access (.writeReg 0x0C 32 v) s = .next { s with height := v } ∧
    access (.writeReg 0x10 32 v) s = .next { s with srcLen := v } ∧
    access (.writeReg 0x14 32 v) s = .next { s with typeTag := v } ∧
    access (.writeReg 0x04 32 v) s = .next s ∧
    access (.writeReg 0x18 32 v) s = .next s ∧
    access (.writeReg 0x1C 32 v) s = .next s ∧
    ∀ o, o % 4 = 0 → 0x20 ≤ o → access (.writeReg o 32 v) s = .next s) ∧
  (∀ (s t : State) (x : Nat) (v : Byte), access (.writeSrc x 8 v) s = .next t → t = { s with src := t.src })

/-- 70_reset_and_hazards.md R235: the host may not write an SRC byte below the latched length while
BUSY = 1 (the run faults); a write elsewhere and a read of SRC are harmless at any time. -/
def Obligations.SrcBelongsToCoreWhileBusy : Prop :=
  ∀ (s : State) (x : Nat) (v : Byte), x < 4294967296 →
    (s.busy = true → x < s.pend.n.toNat → access (.writeSrc x 8 v) s = .fault .srcOwnedByCore) ∧
    ((s.busy = false ∨ s.pend.n.toNat ≤ x) → ∃ t, access (.writeSrc x 8 v) s = .next t ∧
      t.srcBuf s.pend.n.toNat =
        (if x < s.pend.n.toNat then (s.srcBuf s.pend.n.toNat).set x v else s.srcBuf s.pend.n.toNat)) ∧
    access (.readSrc x 8) s = .next (s.pushReading (.byte (s.srcByte x)))

/-- 10_state.md R35, 00_scope.md R9: `MemWrite(SRC, x, 1, v)` stores `v` at `x` and changes no other
byte of SRC and nothing else of the state. -/
def Obligations.SrcStoreThenLoad : Prop :=
  ∀ (s : State) (x : Nat) (v : Byte), x < 4294967296 → s.ownedByCore x = false →
    ∃ t, access (.writeSrc x 8 v) s = .next t ∧ t.srcByte x = v ∧
      (∀ a, a ≠ x → t.srcByte a = s.srcByte a) ∧ t = { s with src := t.src }

/-- The canonical form of SRC (the model's, log 4): two canonical memories with the same written bytes
are equal data. -/
def Obligations.EqualReadsMeanEqualMemory : Prop :=
  ∀ m m' : Memory, Memory.wf m → Memory.wf m' →
    (∀ a, Memory.read? m a = Memory.read? m' a) → m = m'

/-- 70_reset_and_hazards.md R236: while BUSY = 1 reads of RESULT, OUT_LEN and OUT[i] give free values,
a fresh one at each read (log 6), and STATUS reads correctly. -/
def Obligations.ResultsUnspecifiedWhileBusy : Prop :=
  ∀ s : State, s.busy = true →
    (∀ o, (o = 0x18 ∨ o = 0x1C) → access (.readReg o 32) s =
      .next ({ s with draws := s.draws + 1 }.pushReading (.word (Config.freeValue 32 s.draws)))) ∧
    (∀ i, access (.readOut i 8) s =
      .next ({ s with draws := s.draws + 1 }.pushReading (.byte (Config.freeValue 8 s.draws)))) ∧
    access (.readReg 0x04 32) s = .next (s.pushReading (.word s.status))

/-- 20_memory.md R59 (b), R51; 10_state.md R21 to R28, R36: CMD reads 0 and the operand registers read
their value at any time; once BUSY = 0 the host reads RESULT, OUT_LEN, STATUS and each byte of OUT as
they are; beyond the end a free byte (log 7). -/
def Obligations.IdleReadsSeeResults : Prop :=
  (∀ s : State,
    access (.readReg 0x00 32) s = .next (s.pushReading (.word 0#32)) ∧
    access (.readReg 0x08 32) s = .next (s.pushReading (.word s.width)) ∧
    access (.readReg 0x0C 32) s = .next (s.pushReading (.word s.height)) ∧
    access (.readReg 0x10 32) s = .next (s.pushReading (.word s.srcLen)) ∧
    access (.readReg 0x14 32) s = .next (s.pushReading (.word s.typeTag))) ∧
  ∀ s : State, s.busy = false →
    access (.readReg 0x18 32) s = .next (s.pushReading (.word s.result)) ∧
    access (.readReg 0x1C 32) s = .next (s.pushReading (.word s.outLen)) ∧
    access (.readReg 0x04 32) s = .next (s.pushReading (.word s.status)) ∧
    (∀ (i : Nat) (b : Byte), s.out[i]? = some b → access (.readOut i 8) s = .next (s.pushReading (.byte b))) ∧
    (∀ i, s.out.length ≤ i → access (.readOut i 8) s =
      .next (s.pushReading (.byte (Config.outBeyondEnd s.resets s.completions i))))

/-- 70_reset_and_hazards.md R238: RESULT, OUT_LEN and OUT keep their values until the next issue or reset. -/
def Obligations.ResultsLiveUntilNextIssue : Prop :=
  ∀ s t : State, s.busy = false → step s = .next t →
    (t.result = s.result ∧ t.outLen = s.outLen ∧ t.out = s.out) ∨
    (s.mover = .host ∧ ∃ rest, s.program = .access .reset :: rest)

/-- 60_exceptions.md R204: a command in progress completes: the core's step always has a next state
with BUSY = 0 and DONE = 1; and BUSY is 0, by the completion or by a host reset, within
`turns.length + 1` steps, unless the host's own steps stop the run. R204 gives no bound: this one is
the model's choice, since with no turns left the core moves while BUSY = 1 (log 1). -/
def Obligations.EveryCommandCompletes : Prop :=
  (∀ s : State, s.busy = true → ∃ t, coreStep s = .next t ∧ t.busy = false ∧ t.done = true) ∧
  (∀ s : State, s.busy = true → ∃ k, k ≤ s.turns.length + 1 ∧
    ((∃ t, runFor k s = .next t ∧ t.busy = false) ∨ (∃ r, runFor k s = .fault r) ∨
      (∃ r, runFor k s = .refused r)))

/-! ### Checksums -/

/-- 40_checksum.md R102: the byte enters bits 7:0, bits 31:8 unchanged, then exactly eight bit steps of
R101; with the rule's worked example. -/
def Obligations.CrcByteIsEightBitSteps : Prop :=
  (∀ (c : Word) (x : Byte), crcByte c x =
    crcBit (crcBit (crcBit (crcBit (crcBit (crcBit (crcBit (crcBit (c ^^^ x.setWidth 32))))))))) ∧
  (∀ (c : Word) (x : Byte), (c ^^^ x.setWidth 32).extractLsb' 8 24 = c.extractLsb' 8 24 ∧
    (c ^^^ x.setWidth 32).extractLsb' 0 8 = c.extractLsb' 0 8 ^^^ x) ∧
  (List.range 9).map (fun k => crcBit^[k] (0xFFFFFFFF#32 ^^^ 0x31#32)) =
    [0xFFFFFFCE#32, 0x7FFFFFE7#32, 0xD2477CD3#32, 0x849B3D49#32, 0xAFF51D84#32, 0x57FA8EC2#32,
      0x2BFD4761#32, 0xF8462090#32, 0x7C231048#32] ∧
  crcByte 0xFFFFFFFF#32 0x31#8 = 0x7C231048#32 ∧
  (∀ (u : Units) (x : Byte), crcFeed x u = { u with crc := crcByte u.crc x })

/-- 40_checksum.md R112: the sums stay below 65521, the intermediate sums need 17 bits and no more, each
reduction is at most one subtraction, and the output has no overlapping bits. -/
def Obligations.AdlerSumsStayReduced : Prop :=
  (∀ (r : AdlerSums) (x : Byte), r.a.toNat ≤ 65520 → r.b.toNat ≤ 65520 →
    r.a.toNat + x.toNat ≤ 65775 ∧
    (adlerByte r x).a.toNat =
      (if r.a.toNat + x.toNat < 65521 then r.a.toNat + x.toNat else r.a.toNat + x.toNat - 65521) ∧
    r.b.toNat + (adlerByte r x).a.toNat ≤ 131040 ∧
    (adlerByte r x).b.toNat =
      (if r.b.toNat + (adlerByte r x).a.toNat < 65521 then r.b.toNat + (adlerByte r x).a.toNat
        else r.b.toNat + (adlerByte r x).a.toNat - 65521) ∧
    (adlerByte r x).a.toNat ≤ 65520 ∧ (adlerByte r x).b.toNat ≤ 65520) ∧
  (∀ s : Bytes, (adlerRun adlerInit s).a.toNat ≤ 65520 ∧ (adlerRun adlerInit s).b.toNat ≤ 65520) ∧
  (∀ r : AdlerSums, (adlerOut r).toNat = r.b.toNat * 65536 + r.a.toNat)

/-- 40_checksum.md R112: deferring the reduction gives the same values: `a` is 1 plus the sum of the
bytes, `b` the sum of all the successive `a`, each reduced once at the end. -/
def Obligations.AdlerDeferredReduction : Prop :=
  ∀ s : Bytes,
    (adlerRun adlerInit s).a.toNat = (1 + (s.map BitVec.toNat).sum) % 65521 ∧
    (adlerRun adlerInit s).b.toNat =
      ((List.range s.length).map (fun i => 1 + ((s.take (i + 1)).map BitVec.toNat).sum)).sum % 65521

/-! ### Packer -/

/-- 41_stored_deflate.md R133: the block header, byte by byte, NLEN the complement of LEN. -/
def Obligations.BlockHeaderBytes : Prop :=
  (∀ (f : Bool) (len : BitVec 16), blockHeader f len =
    [if f then 1#8 else 0#8, len.extractLsb' 0 8, len.extractLsb' 8 8,
      (0xFFFF#16 ^^^ len).extractLsb' 0 8, (0xFFFF#16 ^^^ len).extractLsb' 8 8]) ∧
  (∀ len : BitVec 16, (not16 len).toNat = 65535 - len.toNat ∧ len ^^^ not16 len = 0xFFFF#16) ∧
  blockHeader true 0 = [0x01#8, 0x00#8, 0x00#8, 0xFF#8, 0xFF#8] ∧
  blockHeader true 18 = [0x01#8, 0x12#8, 0x00#8, 0xED#8, 0xFF#8] ∧
  blockHeader false 65535 = [0x00#8, 0xFF#8, 0xFF#8, 0x00#8, 0x00#8] ∧
  blockHeader true 65535 = [0x01#8, 0xFF#8, 0xFF#8, 0x00#8, 0x00#8]

/-- 41_stored_deflate.md R134: the recursion of `blocks`; they are the blocks of the split rule,
and the final flag is set on the last alone. -/
def Obligations.BlocksFollowRecursion : Prop :=
  (∀ raw : Bytes, raw.length ≤ 65535 →
    blocks raw = blockHeader true (BitVec.ofNat 16 raw.length) ++ raw) ∧
  (∀ raw : Bytes, 65535 < raw.length →
    blocks raw = blockHeader false 65535 ++ raw.take 65535 ++ blocks (raw.drop 65535)) ∧
  (∀ raw : Bytes, ∃ (front : List Bytes) (last : Bytes), splitBlocks raw = front ++ [last] ∧
    blocks raw =
      front.flatMap (fun b => blockHeader false (BitVec.ofNat 16 b.length) ++ b) ++
        (blockHeader true (BitVec.ofNat 16 last.length) ++ last))

/-- 41_stored_deflate.md R132: how many blocks there are, which bytes each carries, and how long each
is; the bytes of all of them are the input. -/
def Obligations.SplitRuleOfBlocks : Prop :=
  ∀ raw : Bytes,
    let n := raw.length
    let N := (max n 1 + 65534) / 65535
    (splitBlocks raw).length = N ∧
    (∀ k, k < N → (splitBlocks raw)[k]? = some ((raw.take (min ((k + 1) * 65535) n)).drop (k * 65535))) ∧
    (∀ k b, k + 1 < N → (splitBlocks raw)[k]? = some b → b.length = 65535) ∧
    (∀ b, (splitBlocks raw)[N - 1]? = some b → b.length = n - (N - 1) * 65535 ∧ b.length ≤ 65535 ∧
      (1 ≤ n → 1 ≤ b.length)) ∧
    (splitBlocks raw).flatten = raw

/-- 41_stored_deflate.md R138: the length of a packed stream. -/
def Obligations.PackedLength : Prop :=
  (∀ raw : Bytes, (pack raw).length = raw.length + 5 * ((max raw.length 1 + 65534) / 65535) + 6) ∧
  packLength 0 = 11 ∧ packLength 1 = 12 ∧ packLength 65535 = 65546 ∧ packLength 65536 = 65552 ∧
  packLength 131072 = 131093

/-- 41_stored_deflate.md R137, 30_encoding.md R79: a reader that finds the blocks by their headers gets
the input back from a packed stream, whatever the input. -/
def Obligations.PackedStreamReadsBack : Prop := ∀ raw : Bytes, readZlib (pack raw) = some raw

/-! ### Chunks and the image -/

/-- 42_chunk.md R152: chunk framing. -/
def Obligations.ChunkFraming : Prop :=
  ∀ t p : Bytes, t.length = 4 → p.length ≤ 4294967295 →
    (chunk t p).take 4 = be32 (BitVec.ofNat 32 p.length) ∧
    ((chunk t p).drop 4).take 4 = t ∧
    ((chunk t p).drop 8).take p.length = p ∧
    (chunk t p).drop (8 + p.length) = be32 (crc32 (((chunk t p).take (8 + p.length)).drop 4)) ∧
    (chunk t p).length = 12 + p.length ∧
    ∀ rest, readChunk (chunk t p ++ rest) = some (t, p, rest)

/-- 43_filter.md R173: which input byte stands at which output index, both ways. -/
def Obligations.FilterIndexMap : Prop :=
  ∀ (px : Bytes) (w h : Nat), 1 ≤ w → 1 ≤ h → px.length = w * h * 4 →
    (∀ k, k < h * (1 + 4 * w) → (filterImage px w h)[k]? =
      if k % (1 + 4 * w) = 0 then some 0x00#8
      else px[k / (1 + 4 * w) * (4 * w) + (k % (1 + 4 * w) - 1)]?) ∧
    (∀ j, j < 4 * w * h → (filterImage px w h)[j + j / (4 * w) + 1]? = px[j]?)

/-- 43_filter.md R174: the length of the scanline buffer. -/
def Obligations.FilterLength : Prop :=
  ∀ (px : Bytes) (w h : Nat), 1 ≤ w → 1 ≤ h → px.length = w * h * 4 →
    (filterImage px w h).length = h * (1 + 4 * w) ∧ 5 ≤ (filterImage px w h).length

/-- 44_encode.md R181: the PNG laid out from its first byte to its last, with the length of each part. -/
def Obligations.EncodedImageLayout : Prop :=
  ∀ (px : Bytes) (w h : Word), w ≠ 0 → h ≠ 0 → px.length = w.toNat * h.toNat * 4 →
    let L := h.toNat * (1 + 4 * w.toNat)
    let N := (L + 65534) / 65535
    let raw := filterImage px w.toNat h.toNat
    let ihdr := [0x49#8, 0x48#8, 0x44#8, 0x52#8] ++ be32 w ++ be32 h ++ [0x08#8, 0x06#8, 0x00#8, 0x00#8, 0x00#8]
    let idat := [0x49#8, 0x44#8, 0x41#8, 0x54#8] ++ [0x78#8, 0x01#8] ++ blocks raw ++ be32 (adler32 raw)
    encodeImage px w h =
      [0x89#8, 0x50#8, 0x4E#8, 0x47#8, 0x0D#8, 0x0A#8, 0x1A#8, 0x0A#8] ++
      [0x00#8, 0x00#8, 0x00#8, 0x0D#8] ++ ihdr ++ be32 (crc32 ihdr) ++
      be32 (BitVec.ofNat 32 (L + 5 * N + 6)) ++ idat ++ be32 (crc32 idat) ++
      [0x00#8, 0x00#8, 0x00#8, 0x00#8, 0x49#8, 0x45#8, 0x4E#8, 0x44#8, 0xAE#8, 0x42#8, 0x60#8, 0x82#8] ∧
    raw.length = L ∧ (blocks raw).length = L + 5 * N ∧
    (encodeImage px w h).length = 63 + L + 5 * N

/-- 44_encode.md R186: reading the PNG back gives the dimensions and the pixel buffer exactly. -/
def Obligations.EncodedImageReadsBack : Prop :=
  ∀ (px : Bytes) (w h : Word), w ≠ 0 → h ≠ 0 → px.length = w.toNat * h.toNat * 4 →
    encodeLength w.toNat h.toNat ≤ 4294967295 →
    readPng (encodeImage px w h) = some (w, h, px)

/-- 44_encode.md R185: where ENCODE succeeds, FILTER, PACK and ASSEMBLE with OUT copied to SRC in
between succeed one after the other and give the same OUT. -/
def Obligations.EncodeEqualsUnitCommands : Prop :=
  ∀ (c : Config) (p : Pend) (px png : Bytes), px.length = p.n.toNat →
    outcomeOf .encode c p px = .ok 0 png →
    ∃ rows stream : Bytes,
      outcomeOf .filter c p px = .ok 0 rows ∧
      outcomeOf .pack c { p with n := lengthWord rows } rows = .ok 0 stream ∧
      outcomeOf .assemble c { p with n := lengthWord stream } stream = .ok 0 png ∧
      rows.length < stream.length ∧ stream.length < png.length

/-! ### Streaming units -/

/-- 41_stored_deflate.md R139: the framer fed byte by byte emits `pack` of the input, from any content
of the unit registers. How `f` and an empty block are read is log 13, the counters' widths log 23
(DEDUCED). -/
def Obligations.FramerStreamEqualsPack : Prop :=
  ∀ (raw : Bytes) (n : Word) (u : Units), raw.length = n.toNat → (framerRun n raw u).2 = pack raw

/-- 43_filter.md R176: the prefixer fed byte by byte emits `filter` of the pixels, from any content of
the unit registers. The counters' widths and comparisons are log 23 (DEDUCED). -/
def Obligations.PrefixerStreamEqualsFilter : Prop :=
  ∀ (px : Bytes) (w h : Word) (u : Units), w ≠ 0 → h ≠ 0 → px.length = 4 * w.toNat * h.toNat →
    (prefixerRun w h px u).2 = filterImage px w.toNat h.toNat

/-- 42_chunk.md R159: the serialiser fed byte by byte emits `chunk` of the payload, from any content of
the unit registers. The counter's width is log 23 (DEDUCED). -/
def Obligations.SerialiserStreamEqualsChunk : Prop :=
  ∀ (t p : Bytes) (n : Word) (u : Units), p.length = n.toNat → (serialiserRun t n p u).2 = chunk t p

/-- 00_scope.md R10, 10_state.md R32, 70_reset_and_hazards.md R240: for every command that succeeds, one
pass of the units over its input, from any content of the unit registers, gives the command's RESULT
and OUT. The transitions stand beside the atomic completion (log 22); how they are read is log 13 and
log 23 (DEDUCED). -/
def Obligations.SinglePassEqualsCommand : Prop :=
  ∀ (i : Instr) (c : Config) (p : Pend) (input : Bytes) (u : Units) (r : Word) (bs : Bytes),
    input.length = p.n.toNat → outcomeOf i c p input = .ok r bs → streamOf i p input u = (r, bs)

/-! ### Host notation and platform -/

/-- 30_encoding.md R88, `RUN`: from a ready core with no turns fixed, the CMD write issues, the core
completes, WAIT reads STATUS and the host goes on; the results are the command's.
The schedule with no turns fixed and the step count are the model's choice (log 1, log 15). -/
def Obligations.RunIssuesAndWaits : Prop :=
  ∀ (s : State) (i : Instr) (rest : List HostStep), s.ready = true → s.turns = [] →
    s.program = hostRUN i ++ rest →
    ∃ t, runFor 3 s = .next t ∧ t.program = rest ∧ t.busy = false ∧ t.done = true ∧
      t.readings = .word t.status :: s.readings ∧
      ((∃ r bs, outcomeOf i Config.machine (s.latch (encode i)) (s.srcBuf s.srcLen.toNat) = .ok r bs ∧
          t.result = r ∧ t.out = bs ∧ t.err = 0#4) ∨
       (∃ e, outcomeOf i Config.machine (s.latch (encode i)) (s.srcBuf s.srcLen.toNat) = .err e ∧
          t.result = 0 ∧ t.out = [] ∧ t.err = errorCode e))

/-- 30_encoding.md R88, `LOAD`: the bytes stand in SRC from address 0, SRC_LEN is their number, and
nothing else of the core changed.
The schedule with no turns fixed and the step count are the model's choice (log 1, log 15). -/
def Obligations.LoadFillsSource : Prop :=
  ∀ (s : State) (bs : Bytes) (rest : List HostStep), s.busy = false → s.turns = [] →
    bs.length < 4294967296 → s.program = hostLOAD bs ++ rest →
    ∃ t, runFor (bs.length + 1) s = .next t ∧ t.program = rest ∧ t.srcLen.toNat = bs.length ∧
      t.srcBuf bs.length = bs ∧ (∀ a, bs.length ≤ a → t.srcByte a = s.srcByte a) ∧
      t = { s with src := t.src, srcLen := t.srcLen, program := rest }

/-- 30_encoding.md R88, `FETCH`: the host's last readings are the bytes of OUT in order.
The schedule with no turns fixed and the step count are the model's choice (log 1, log 15). -/
def Obligations.FetchReadsWholeOutput : Prop :=
  ∀ (s : State) (rest : List HostStep), s.busy = false → s.turns = [] →
    s.outLen.toNat = s.out.length → s.program = .fetch :: rest →
    ∃ t, runFor (s.out.length + 1) s = .next t ∧ t.program = rest ∧
      t.lastReadings s.out.length = s.out ∧ t.visible = s.visible ∧ t.src = s.src

/-- 30_encoding.md R88, `MOVE`: the whole of OUT stands in SRC from address 0 and SRC_LEN is OUT_LEN.
The schedule with no turns fixed and the step count are the model's choice (log 1, log 15). -/
def Obligations.MoveCopiesOutputToSource : Prop :=
  ∀ (s : State) (rest : List HostStep), s.busy = false → s.turns = [] →
    s.outLen.toNat = s.out.length → s.program = .move :: rest →
    ∃ t, runFor (2 * s.out.length + 3) s = .next t ∧ t.program = rest ∧
      t.srcLen = s.outLen ∧ t.srcBuf s.out.length = s.out ∧ t.out = s.out ∧ t.outLen = s.outLen ∧
      t.status = s.status

/-- 60_exceptions.md R221: instances share no state: a step of one leaves every other as it was, and
what it does depends on that instance alone. -/
def Obligations.CoresShareNothing : Prop :=
  (∀ (p p' : Platform) (k j : Nat), Platform.step k p = .next p' → j ≠ k → p'[j]? = p[j]?) ∧
  (∀ (p q p' : Platform) (k : Nat), p[k]? = q[k]? → Platform.step k p = .next p' →
    ∃ q', Platform.step k q = .next q' ∧ q'[k]? = p'[k]?)
end

