-- ==== Sys2Proof/Laws/State.lean ====
section
/-! SUPPORT. What each named update of the state leaves in each field, and the fields at reset: one
lemma per field per update, so that no later proof unfolds a record update. -/

namespace Sys2Proof.Machine

/-! ### State.issued -/

@[simp] theorem State.issued_status (s : State) (v : Word) : (s.issued v).status = statusIssued s.status := rfl
@[simp] theorem State.issued_width (s : State) (v : Word) : (s.issued v).width = s.width := rfl
@[simp] theorem State.issued_height (s : State) (v : Word) : (s.issued v).height = s.height := rfl
@[simp] theorem State.issued_srcLen (s : State) (v : Word) : (s.issued v).srcLen = s.srcLen := rfl
@[simp] theorem State.issued_typeTag (s : State) (v : Word) : (s.issued v).typeTag = s.typeTag := rfl
@[simp] theorem State.issued_result (s : State) (v : Word) : (s.issued v).result = s.result := rfl
@[simp] theorem State.issued_outLen (s : State) (v : Word) : (s.issued v).outLen = s.outLen := rfl
@[simp] theorem State.issued_out (s : State) (v : Word) : (s.issued v).out = s.out := rfl
@[simp] theorem State.issued_src (s : State) (v : Word) : (s.issued v).src = s.src := rfl
@[simp] theorem State.issued_pend (s : State) (v : Word) : (s.issued v).pend = s.latch v := rfl
@[simp] theorem State.issued_units (s : State) (v : Word) : (s.issued v).units = s.units := rfl
@[simp] theorem State.issued_program (s : State) (v : Word) : (s.issued v).program = s.program := rfl
@[simp] theorem State.issued_readings (s : State) (v : Word) : (s.issued v).readings = s.readings := rfl
@[simp] theorem State.issued_turns (s : State) (v : Word) : (s.issued v).turns = s.turns := rfl
@[simp] theorem State.issued_draws (s : State) (v : Word) : (s.issued v).draws = s.draws := rfl
@[simp] theorem State.issued_completions (s : State) (v : Word) : (s.issued v).completions = s.completions := rfl
@[simp] theorem State.issued_resets (s : State) (v : Word) : (s.issued v).resets = s.resets := rfl

/-! ### State.succeed -/

@[simp] theorem State.succeed_status (s : State) (r : Word) (bs : Bytes) : (s.succeed r bs).status = statusSucceeded s.status := rfl
@[simp] theorem State.succeed_width (s : State) (r : Word) (bs : Bytes) : (s.succeed r bs).width = s.width := rfl
@[simp] theorem State.succeed_height (s : State) (r : Word) (bs : Bytes) : (s.succeed r bs).height = s.height := rfl
@[simp] theorem State.succeed_srcLen (s : State) (r : Word) (bs : Bytes) : (s.succeed r bs).srcLen = s.srcLen := rfl
@[simp] theorem State.succeed_typeTag (s : State) (r : Word) (bs : Bytes) : (s.succeed r bs).typeTag = s.typeTag := rfl
@[simp] theorem State.succeed_result (s : State) (r : Word) (bs : Bytes) : (s.succeed r bs).result = r := rfl
@[simp] theorem State.succeed_outLen (s : State) (r : Word) (bs : Bytes) : (s.succeed r bs).outLen = lengthWord bs := rfl
@[simp] theorem State.succeed_out (s : State) (r : Word) (bs : Bytes) : (s.succeed r bs).out = bs := rfl
@[simp] theorem State.succeed_src (s : State) (r : Word) (bs : Bytes) : (s.succeed r bs).src = s.src := rfl
@[simp] theorem State.succeed_pend (s : State) (r : Word) (bs : Bytes) : (s.succeed r bs).pend = freePend s.draws := rfl
@[simp] theorem State.succeed_units (s : State) (r : Word) (bs : Bytes) : (s.succeed r bs).units = freeUnits (s.draws + 5) := rfl
@[simp] theorem State.succeed_program (s : State) (r : Word) (bs : Bytes) : (s.succeed r bs).program = s.program := rfl
@[simp] theorem State.succeed_readings (s : State) (r : Word) (bs : Bytes) : (s.succeed r bs).readings = s.readings := rfl
@[simp] theorem State.succeed_turns (s : State) (r : Word) (bs : Bytes) : (s.succeed r bs).turns = s.turns := rfl
@[simp] theorem State.succeed_draws (s : State) (r : Word) (bs : Bytes) : (s.succeed r bs).draws = s.draws + 13 := rfl
@[simp] theorem State.succeed_completions (s : State) (r : Word) (bs : Bytes) : (s.succeed r bs).completions = s.completions + 1 := rfl
@[simp] theorem State.succeed_resets (s : State) (r : Word) (bs : Bytes) : (s.succeed r bs).resets = s.resets := rfl

/-! ### State.raise -/

@[simp] theorem State.raise_status (s : State) (e : CoreError) : (s.raise e).status = statusFailed e s.status := rfl
@[simp] theorem State.raise_width (s : State) (e : CoreError) : (s.raise e).width = s.width := rfl
@[simp] theorem State.raise_height (s : State) (e : CoreError) : (s.raise e).height = s.height := rfl
@[simp] theorem State.raise_srcLen (s : State) (e : CoreError) : (s.raise e).srcLen = s.srcLen := rfl
@[simp] theorem State.raise_typeTag (s : State) (e : CoreError) : (s.raise e).typeTag = s.typeTag := rfl
@[simp] theorem State.raise_result (s : State) (e : CoreError) : (s.raise e).result = 0 := rfl
@[simp] theorem State.raise_outLen (s : State) (e : CoreError) : (s.raise e).outLen = 0 := rfl
@[simp] theorem State.raise_out (s : State) (e : CoreError) : (s.raise e).out = [] := rfl
@[simp] theorem State.raise_src (s : State) (e : CoreError) : (s.raise e).src = s.src := rfl
@[simp] theorem State.raise_pend (s : State) (e : CoreError) : (s.raise e).pend = s.pend := rfl
@[simp] theorem State.raise_units (s : State) (e : CoreError) : (s.raise e).units = s.units := rfl
@[simp] theorem State.raise_program (s : State) (e : CoreError) : (s.raise e).program = s.program := rfl
@[simp] theorem State.raise_readings (s : State) (e : CoreError) : (s.raise e).readings = s.readings := rfl
@[simp] theorem State.raise_turns (s : State) (e : CoreError) : (s.raise e).turns = s.turns := rfl
@[simp] theorem State.raise_draws (s : State) (e : CoreError) : (s.raise e).draws = s.draws := rfl
@[simp] theorem State.raise_completions (s : State) (e : CoreError) : (s.raise e).completions = s.completions + 1 := rfl
@[simp] theorem State.raise_resets (s : State) (e : CoreError) : (s.raise e).resets = s.resets := rfl

/-! ### State.applyReset -/

@[simp] theorem State.applyReset_status (s : State) : (s.applyReset).status = State.reset.status := rfl
@[simp] theorem State.applyReset_width (s : State) : (s.applyReset).width = State.reset.width := rfl
@[simp] theorem State.applyReset_height (s : State) : (s.applyReset).height = State.reset.height := rfl
@[simp] theorem State.applyReset_srcLen (s : State) : (s.applyReset).srcLen = State.reset.srcLen := rfl
@[simp] theorem State.applyReset_typeTag (s : State) : (s.applyReset).typeTag = State.reset.typeTag := rfl
@[simp] theorem State.applyReset_result (s : State) : (s.applyReset).result = State.reset.result := rfl
@[simp] theorem State.applyReset_outLen (s : State) : (s.applyReset).outLen = State.reset.outLen := rfl
@[simp] theorem State.applyReset_out (s : State) : (s.applyReset).out = State.reset.out := rfl
@[simp] theorem State.applyReset_src (s : State) : (s.applyReset).src = State.reset.src := rfl
@[simp] theorem State.applyReset_pend (s : State) : (s.applyReset).pend = State.reset.pend := rfl
@[simp] theorem State.applyReset_units (s : State) : (s.applyReset).units = State.reset.units := rfl
@[simp] theorem State.applyReset_program (s : State) : (s.applyReset).program = s.program := rfl
@[simp] theorem State.applyReset_readings (s : State) : (s.applyReset).readings = s.readings := rfl
@[simp] theorem State.applyReset_turns (s : State) : (s.applyReset).turns = s.turns := rfl
@[simp] theorem State.applyReset_draws (s : State) : (s.applyReset).draws = s.draws := rfl
@[simp] theorem State.applyReset_completions (s : State) : (s.applyReset).completions = s.completions := rfl
@[simp] theorem State.applyReset_resets (s : State) : (s.applyReset).resets = s.resets + 1 := rfl

/-! ### State.setWidth -/

@[simp] theorem State.setWidth_status (s : State) (v : Word) : (s.setWidth v).status = s.status := rfl
@[simp] theorem State.setWidth_width (s : State) (v : Word) : (s.setWidth v).width = v := rfl
@[simp] theorem State.setWidth_height (s : State) (v : Word) : (s.setWidth v).height = s.height := rfl
@[simp] theorem State.setWidth_srcLen (s : State) (v : Word) : (s.setWidth v).srcLen = s.srcLen := rfl
@[simp] theorem State.setWidth_typeTag (s : State) (v : Word) : (s.setWidth v).typeTag = s.typeTag := rfl
@[simp] theorem State.setWidth_result (s : State) (v : Word) : (s.setWidth v).result = s.result := rfl
@[simp] theorem State.setWidth_outLen (s : State) (v : Word) : (s.setWidth v).outLen = s.outLen := rfl
@[simp] theorem State.setWidth_out (s : State) (v : Word) : (s.setWidth v).out = s.out := rfl
@[simp] theorem State.setWidth_src (s : State) (v : Word) : (s.setWidth v).src = s.src := rfl
@[simp] theorem State.setWidth_pend (s : State) (v : Word) : (s.setWidth v).pend = s.pend := rfl
@[simp] theorem State.setWidth_units (s : State) (v : Word) : (s.setWidth v).units = s.units := rfl
@[simp] theorem State.setWidth_program (s : State) (v : Word) : (s.setWidth v).program = s.program := rfl
@[simp] theorem State.setWidth_readings (s : State) (v : Word) : (s.setWidth v).readings = s.readings := rfl
@[simp] theorem State.setWidth_turns (s : State) (v : Word) : (s.setWidth v).turns = s.turns := rfl
@[simp] theorem State.setWidth_draws (s : State) (v : Word) : (s.setWidth v).draws = s.draws := rfl
@[simp] theorem State.setWidth_completions (s : State) (v : Word) : (s.setWidth v).completions = s.completions := rfl
@[simp] theorem State.setWidth_resets (s : State) (v : Word) : (s.setWidth v).resets = s.resets := rfl

/-! ### State.setHeight -/

@[simp] theorem State.setHeight_status (s : State) (v : Word) : (s.setHeight v).status = s.status := rfl
@[simp] theorem State.setHeight_width (s : State) (v : Word) : (s.setHeight v).width = s.width := rfl
@[simp] theorem State.setHeight_height (s : State) (v : Word) : (s.setHeight v).height = v := rfl
@[simp] theorem State.setHeight_srcLen (s : State) (v : Word) : (s.setHeight v).srcLen = s.srcLen := rfl
@[simp] theorem State.setHeight_typeTag (s : State) (v : Word) : (s.setHeight v).typeTag = s.typeTag := rfl
@[simp] theorem State.setHeight_result (s : State) (v : Word) : (s.setHeight v).result = s.result := rfl
@[simp] theorem State.setHeight_outLen (s : State) (v : Word) : (s.setHeight v).outLen = s.outLen := rfl
@[simp] theorem State.setHeight_out (s : State) (v : Word) : (s.setHeight v).out = s.out := rfl
@[simp] theorem State.setHeight_src (s : State) (v : Word) : (s.setHeight v).src = s.src := rfl
@[simp] theorem State.setHeight_pend (s : State) (v : Word) : (s.setHeight v).pend = s.pend := rfl
@[simp] theorem State.setHeight_units (s : State) (v : Word) : (s.setHeight v).units = s.units := rfl
@[simp] theorem State.setHeight_program (s : State) (v : Word) : (s.setHeight v).program = s.program := rfl
@[simp] theorem State.setHeight_readings (s : State) (v : Word) : (s.setHeight v).readings = s.readings := rfl
@[simp] theorem State.setHeight_turns (s : State) (v : Word) : (s.setHeight v).turns = s.turns := rfl
@[simp] theorem State.setHeight_draws (s : State) (v : Word) : (s.setHeight v).draws = s.draws := rfl
@[simp] theorem State.setHeight_completions (s : State) (v : Word) : (s.setHeight v).completions = s.completions := rfl
@[simp] theorem State.setHeight_resets (s : State) (v : Word) : (s.setHeight v).resets = s.resets := rfl

/-! ### State.setSrcLen -/

@[simp] theorem State.setSrcLen_status (s : State) (v : Word) : (s.setSrcLen v).status = s.status := rfl
@[simp] theorem State.setSrcLen_width (s : State) (v : Word) : (s.setSrcLen v).width = s.width := rfl
@[simp] theorem State.setSrcLen_height (s : State) (v : Word) : (s.setSrcLen v).height = s.height := rfl
@[simp] theorem State.setSrcLen_srcLen (s : State) (v : Word) : (s.setSrcLen v).srcLen = v := rfl
@[simp] theorem State.setSrcLen_typeTag (s : State) (v : Word) : (s.setSrcLen v).typeTag = s.typeTag := rfl
@[simp] theorem State.setSrcLen_result (s : State) (v : Word) : (s.setSrcLen v).result = s.result := rfl
@[simp] theorem State.setSrcLen_outLen (s : State) (v : Word) : (s.setSrcLen v).outLen = s.outLen := rfl
@[simp] theorem State.setSrcLen_out (s : State) (v : Word) : (s.setSrcLen v).out = s.out := rfl
@[simp] theorem State.setSrcLen_src (s : State) (v : Word) : (s.setSrcLen v).src = s.src := rfl
@[simp] theorem State.setSrcLen_pend (s : State) (v : Word) : (s.setSrcLen v).pend = s.pend := rfl
@[simp] theorem State.setSrcLen_units (s : State) (v : Word) : (s.setSrcLen v).units = s.units := rfl
@[simp] theorem State.setSrcLen_program (s : State) (v : Word) : (s.setSrcLen v).program = s.program := rfl
@[simp] theorem State.setSrcLen_readings (s : State) (v : Word) : (s.setSrcLen v).readings = s.readings := rfl
@[simp] theorem State.setSrcLen_turns (s : State) (v : Word) : (s.setSrcLen v).turns = s.turns := rfl
@[simp] theorem State.setSrcLen_draws (s : State) (v : Word) : (s.setSrcLen v).draws = s.draws := rfl
@[simp] theorem State.setSrcLen_completions (s : State) (v : Word) : (s.setSrcLen v).completions = s.completions := rfl
@[simp] theorem State.setSrcLen_resets (s : State) (v : Word) : (s.setSrcLen v).resets = s.resets := rfl

/-! ### State.setTypeTag -/

@[simp] theorem State.setTypeTag_status (s : State) (v : Word) : (s.setTypeTag v).status = s.status := rfl
@[simp] theorem State.setTypeTag_width (s : State) (v : Word) : (s.setTypeTag v).width = s.width := rfl
@[simp] theorem State.setTypeTag_height (s : State) (v : Word) : (s.setTypeTag v).height = s.height := rfl
@[simp] theorem State.setTypeTag_srcLen (s : State) (v : Word) : (s.setTypeTag v).srcLen = s.srcLen := rfl
@[simp] theorem State.setTypeTag_typeTag (s : State) (v : Word) : (s.setTypeTag v).typeTag = v := rfl
@[simp] theorem State.setTypeTag_result (s : State) (v : Word) : (s.setTypeTag v).result = s.result := rfl
@[simp] theorem State.setTypeTag_outLen (s : State) (v : Word) : (s.setTypeTag v).outLen = s.outLen := rfl
@[simp] theorem State.setTypeTag_out (s : State) (v : Word) : (s.setTypeTag v).out = s.out := rfl
@[simp] theorem State.setTypeTag_src (s : State) (v : Word) : (s.setTypeTag v).src = s.src := rfl
@[simp] theorem State.setTypeTag_pend (s : State) (v : Word) : (s.setTypeTag v).pend = s.pend := rfl
@[simp] theorem State.setTypeTag_units (s : State) (v : Word) : (s.setTypeTag v).units = s.units := rfl
@[simp] theorem State.setTypeTag_program (s : State) (v : Word) : (s.setTypeTag v).program = s.program := rfl
@[simp] theorem State.setTypeTag_readings (s : State) (v : Word) : (s.setTypeTag v).readings = s.readings := rfl
@[simp] theorem State.setTypeTag_turns (s : State) (v : Word) : (s.setTypeTag v).turns = s.turns := rfl
@[simp] theorem State.setTypeTag_draws (s : State) (v : Word) : (s.setTypeTag v).draws = s.draws := rfl
@[simp] theorem State.setTypeTag_completions (s : State) (v : Word) : (s.setTypeTag v).completions = s.completions := rfl
@[simp] theorem State.setTypeTag_resets (s : State) (v : Word) : (s.setTypeTag v).resets = s.resets := rfl

/-! ### State.storeSrc -/

@[simp] theorem State.storeSrc_status (s : State) (a : Nat) (v : Byte) : (s.storeSrc a v).status = s.status := rfl
@[simp] theorem State.storeSrc_width (s : State) (a : Nat) (v : Byte) : (s.storeSrc a v).width = s.width := rfl
@[simp] theorem State.storeSrc_height (s : State) (a : Nat) (v : Byte) : (s.storeSrc a v).height = s.height := rfl
@[simp] theorem State.storeSrc_srcLen (s : State) (a : Nat) (v : Byte) : (s.storeSrc a v).srcLen = s.srcLen := rfl
@[simp] theorem State.storeSrc_typeTag (s : State) (a : Nat) (v : Byte) : (s.storeSrc a v).typeTag = s.typeTag := rfl
@[simp] theorem State.storeSrc_result (s : State) (a : Nat) (v : Byte) : (s.storeSrc a v).result = s.result := rfl
@[simp] theorem State.storeSrc_outLen (s : State) (a : Nat) (v : Byte) : (s.storeSrc a v).outLen = s.outLen := rfl
@[simp] theorem State.storeSrc_out (s : State) (a : Nat) (v : Byte) : (s.storeSrc a v).out = s.out := rfl
@[simp] theorem State.storeSrc_src (s : State) (a : Nat) (v : Byte) : (s.storeSrc a v).src = Memory.write s.src a v := rfl
@[simp] theorem State.storeSrc_pend (s : State) (a : Nat) (v : Byte) : (s.storeSrc a v).pend = s.pend := rfl
@[simp] theorem State.storeSrc_units (s : State) (a : Nat) (v : Byte) : (s.storeSrc a v).units = s.units := rfl
@[simp] theorem State.storeSrc_program (s : State) (a : Nat) (v : Byte) : (s.storeSrc a v).program = s.program := rfl
@[simp] theorem State.storeSrc_readings (s : State) (a : Nat) (v : Byte) : (s.storeSrc a v).readings = s.readings := rfl
@[simp] theorem State.storeSrc_turns (s : State) (a : Nat) (v : Byte) : (s.storeSrc a v).turns = s.turns := rfl
@[simp] theorem State.storeSrc_draws (s : State) (a : Nat) (v : Byte) : (s.storeSrc a v).draws = s.draws := rfl
@[simp] theorem State.storeSrc_completions (s : State) (a : Nat) (v : Byte) : (s.storeSrc a v).completions = s.completions := rfl
@[simp] theorem State.storeSrc_resets (s : State) (a : Nat) (v : Byte) : (s.storeSrc a v).resets = s.resets := rfl

/-! ### State.setProgram -/

@[simp] theorem State.setProgram_status (s : State) (p : List HostStep) : (s.setProgram p).status = s.status := rfl
@[simp] theorem State.setProgram_width (s : State) (p : List HostStep) : (s.setProgram p).width = s.width := rfl
@[simp] theorem State.setProgram_height (s : State) (p : List HostStep) : (s.setProgram p).height = s.height := rfl
@[simp] theorem State.setProgram_srcLen (s : State) (p : List HostStep) : (s.setProgram p).srcLen = s.srcLen := rfl
@[simp] theorem State.setProgram_typeTag (s : State) (p : List HostStep) : (s.setProgram p).typeTag = s.typeTag := rfl
@[simp] theorem State.setProgram_result (s : State) (p : List HostStep) : (s.setProgram p).result = s.result := rfl
@[simp] theorem State.setProgram_outLen (s : State) (p : List HostStep) : (s.setProgram p).outLen = s.outLen := rfl
@[simp] theorem State.setProgram_out (s : State) (p : List HostStep) : (s.setProgram p).out = s.out := rfl
@[simp] theorem State.setProgram_src (s : State) (p : List HostStep) : (s.setProgram p).src = s.src := rfl
@[simp] theorem State.setProgram_pend (s : State) (p : List HostStep) : (s.setProgram p).pend = s.pend := rfl
@[simp] theorem State.setProgram_units (s : State) (p : List HostStep) : (s.setProgram p).units = s.units := rfl
@[simp] theorem State.setProgram_program (s : State) (p : List HostStep) : (s.setProgram p).program = p := rfl
@[simp] theorem State.setProgram_readings (s : State) (p : List HostStep) : (s.setProgram p).readings = s.readings := rfl
@[simp] theorem State.setProgram_turns (s : State) (p : List HostStep) : (s.setProgram p).turns = s.turns := rfl
@[simp] theorem State.setProgram_draws (s : State) (p : List HostStep) : (s.setProgram p).draws = s.draws := rfl
@[simp] theorem State.setProgram_completions (s : State) (p : List HostStep) : (s.setProgram p).completions = s.completions := rfl
@[simp] theorem State.setProgram_resets (s : State) (p : List HostStep) : (s.setProgram p).resets = s.resets := rfl

/-! ### State.countDraw -/

@[simp] theorem State.countDraw_status (s : State) : (s.countDraw).status = s.status := rfl
@[simp] theorem State.countDraw_width (s : State) : (s.countDraw).width = s.width := rfl
@[simp] theorem State.countDraw_height (s : State) : (s.countDraw).height = s.height := rfl
@[simp] theorem State.countDraw_srcLen (s : State) : (s.countDraw).srcLen = s.srcLen := rfl
@[simp] theorem State.countDraw_typeTag (s : State) : (s.countDraw).typeTag = s.typeTag := rfl
@[simp] theorem State.countDraw_result (s : State) : (s.countDraw).result = s.result := rfl
@[simp] theorem State.countDraw_outLen (s : State) : (s.countDraw).outLen = s.outLen := rfl
@[simp] theorem State.countDraw_out (s : State) : (s.countDraw).out = s.out := rfl
@[simp] theorem State.countDraw_src (s : State) : (s.countDraw).src = s.src := rfl
@[simp] theorem State.countDraw_pend (s : State) : (s.countDraw).pend = s.pend := rfl
@[simp] theorem State.countDraw_units (s : State) : (s.countDraw).units = s.units := rfl
@[simp] theorem State.countDraw_program (s : State) : (s.countDraw).program = s.program := rfl
@[simp] theorem State.countDraw_readings (s : State) : (s.countDraw).readings = s.readings := rfl
@[simp] theorem State.countDraw_turns (s : State) : (s.countDraw).turns = s.turns := rfl
@[simp] theorem State.countDraw_draws (s : State) : (s.countDraw).draws = s.draws + 1 := rfl
@[simp] theorem State.countDraw_completions (s : State) : (s.countDraw).completions = s.completions := rfl
@[simp] theorem State.countDraw_resets (s : State) : (s.countDraw).resets = s.resets := rfl

/-! ### State.pushReading -/

@[simp] theorem State.pushReading_status (s : State) (v : Reading) : (s.pushReading v).status = s.status := rfl
@[simp] theorem State.pushReading_width (s : State) (v : Reading) : (s.pushReading v).width = s.width := rfl
@[simp] theorem State.pushReading_height (s : State) (v : Reading) : (s.pushReading v).height = s.height := rfl
@[simp] theorem State.pushReading_srcLen (s : State) (v : Reading) : (s.pushReading v).srcLen = s.srcLen := rfl
@[simp] theorem State.pushReading_typeTag (s : State) (v : Reading) : (s.pushReading v).typeTag = s.typeTag := rfl
@[simp] theorem State.pushReading_result (s : State) (v : Reading) : (s.pushReading v).result = s.result := rfl
@[simp] theorem State.pushReading_outLen (s : State) (v : Reading) : (s.pushReading v).outLen = s.outLen := rfl
@[simp] theorem State.pushReading_out (s : State) (v : Reading) : (s.pushReading v).out = s.out := rfl
@[simp] theorem State.pushReading_src (s : State) (v : Reading) : (s.pushReading v).src = s.src := rfl
@[simp] theorem State.pushReading_pend (s : State) (v : Reading) : (s.pushReading v).pend = s.pend := rfl
@[simp] theorem State.pushReading_units (s : State) (v : Reading) : (s.pushReading v).units = s.units := rfl
@[simp] theorem State.pushReading_program (s : State) (v : Reading) : (s.pushReading v).program = s.program := rfl
@[simp] theorem State.pushReading_readings (s : State) (v : Reading) : (s.pushReading v).readings = v :: s.readings := rfl
@[simp] theorem State.pushReading_turns (s : State) (v : Reading) : (s.pushReading v).turns = s.turns := rfl
@[simp] theorem State.pushReading_draws (s : State) (v : Reading) : (s.pushReading v).draws = s.draws := rfl
@[simp] theorem State.pushReading_completions (s : State) (v : Reading) : (s.pushReading v).completions = s.completions := rfl
@[simp] theorem State.pushReading_resets (s : State) (v : Reading) : (s.pushReading v).resets = s.resets := rfl

/-! ### State.passTurn -/

@[simp] theorem State.passTurn_status (s : State) : (s.passTurn).status = s.status := rfl
@[simp] theorem State.passTurn_width (s : State) : (s.passTurn).width = s.width := rfl
@[simp] theorem State.passTurn_height (s : State) : (s.passTurn).height = s.height := rfl
@[simp] theorem State.passTurn_srcLen (s : State) : (s.passTurn).srcLen = s.srcLen := rfl
@[simp] theorem State.passTurn_typeTag (s : State) : (s.passTurn).typeTag = s.typeTag := rfl
@[simp] theorem State.passTurn_result (s : State) : (s.passTurn).result = s.result := rfl
@[simp] theorem State.passTurn_outLen (s : State) : (s.passTurn).outLen = s.outLen := rfl
@[simp] theorem State.passTurn_out (s : State) : (s.passTurn).out = s.out := rfl
@[simp] theorem State.passTurn_src (s : State) : (s.passTurn).src = s.src := rfl
@[simp] theorem State.passTurn_pend (s : State) : (s.passTurn).pend = s.pend := rfl
@[simp] theorem State.passTurn_units (s : State) : (s.passTurn).units = s.units := rfl
@[simp] theorem State.passTurn_program (s : State) : (s.passTurn).program = s.program := rfl
@[simp] theorem State.passTurn_readings (s : State) : (s.passTurn).readings = s.readings := rfl
@[simp] theorem State.passTurn_turns (s : State) : (s.passTurn).turns = s.turns.tail := rfl
@[simp] theorem State.passTurn_draws (s : State) : (s.passTurn).draws = s.draws := rfl
@[simp] theorem State.passTurn_completions (s : State) : (s.passTurn).completions = s.completions := rfl
@[simp] theorem State.passTurn_resets (s : State) : (s.passTurn).resets = s.resets := rfl

/-! ### State.reset (10_state.md R38) -/

@[simp] theorem State.reset_status : State.reset.status = 0 := rfl
@[simp] theorem State.reset_width : State.reset.width = 0 := rfl
@[simp] theorem State.reset_height : State.reset.height = 0 := rfl
@[simp] theorem State.reset_srcLen : State.reset.srcLen = 0 := rfl
@[simp] theorem State.reset_typeTag : State.reset.typeTag = 0 := rfl
@[simp] theorem State.reset_result : State.reset.result = 0 := rfl
@[simp] theorem State.reset_outLen : State.reset.outLen = 0 := rfl
@[simp] theorem State.reset_out : State.reset.out = [] := rfl
@[simp] theorem State.reset_src : State.reset.src = [] := rfl
@[simp] theorem State.reset_pend : State.reset.pend = Pend.atReset := rfl
@[simp] theorem State.reset_units : State.reset.units = Units.atReset := rfl
@[simp] theorem State.reset_program : State.reset.program = [] := rfl
@[simp] theorem State.reset_readings : State.reset.readings = [] := rfl
@[simp] theorem State.reset_turns : State.reset.turns = [] := rfl
@[simp] theorem State.reset_draws : State.reset.draws = 0 := rfl
@[simp] theorem State.reset_completions : State.reset.completions = 0 := rfl
@[simp] theorem State.reset_resets : State.reset.resets = 0 := rfl

/-! ### State.latch -/

@[simp] theorem State.latch_op (s : State) (v : Word) : (s.latch v).op = v := rfl
@[simp] theorem State.latch_w (s : State) (v : Word) : (s.latch v).w = s.width := rfl
@[simp] theorem State.latch_h (s : State) (v : Word) : (s.latch v).h = s.height := rfl
@[simp] theorem State.latch_n (s : State) (v : Word) : (s.latch v).n = s.srcLen := rfl
@[simp] theorem State.latch_t (s : State) (v : Word) : (s.latch v).t = s.typeTag := rfl

end Sys2Proof.Machine
end

