-- ==== Sys2Proof/Laws/Flags.lean ====
section
/-! SUPPORT. What each update of STATUS leaves in each field (10_state.md R22): one lemma per setter
says every bit it leaves, the field lemmas follow. -/

namespace Sys2Proof.Machine

theorem getLsbD_setBusy (b : Bool) (w : Word) (i : Nat) :
    (setBusy b w).getLsbD i = if i = 0 then b else w.getLsbD i := by
  by_cases h : i < 32
  · interval_cases i <;> cases b <;> simp [setBusy]
  · have hi : i ≠ 0 := by omega
    simp [hi, BitVec.getLsbD_of_ge _ i (Nat.le_of_not_lt h)]

theorem getLsbD_setDone (b : Bool) (w : Word) (i : Nat) :
    (setDone b w).getLsbD i = if i = 1 then b else w.getLsbD i := by
  by_cases h : i < 32
  · interval_cases i <;> cases b <;> simp [setDone]
  · have hi : i ≠ 1 := by omega
    simp [hi, BitVec.getLsbD_of_ge _ i (Nat.le_of_not_lt h)]

theorem getLsbD_setFatal (b : Bool) (w : Word) (i : Nat) :
    (setFatal b w).getLsbD i = if i = 2 then b else w.getLsbD i := by
  by_cases h : i < 32
  · interval_cases i <;> cases b <;> simp [setFatal]
  · have hi : i ≠ 2 := by omega
    simp [hi, BitVec.getLsbD_of_ge _ i (Nat.le_of_not_lt h)]

theorem getLsbD_setErr (e : BitVec 4) (w : Word) (i : Nat) :
    (setErr e w).getLsbD i = if 8 ≤ i ∧ i < 12 then e.getLsbD (i - 8) else w.getLsbD i := by
  by_cases h : i < 32
  · interval_cases i <;> simp [setErr]
  · have hi : ¬ (8 ≤ i ∧ i < 12) := by omega
    simp only [hi, if_false, BitVec.getLsbD_of_ge _ i (Nat.le_of_not_lt h)]

/-! ### One setter, one field -/

@[simp] theorem statusBusy_setBusy (b : Bool) (w : Word) : statusBusy (setBusy b w) = b := by
  unfold statusBusy; rw [getLsbD_setBusy]; rfl
@[simp] theorem statusBusy_setDone (b : Bool) (w : Word) : statusBusy (setDone b w) = statusBusy w := by
  unfold statusBusy; rw [getLsbD_setDone]; rfl
@[simp] theorem statusBusy_setFatal (b : Bool) (w : Word) : statusBusy (setFatal b w) = statusBusy w := by
  unfold statusBusy; rw [getLsbD_setFatal]; rfl
@[simp] theorem statusBusy_setErr (e : BitVec 4) (w : Word) : statusBusy (setErr e w) = statusBusy w := by
  unfold statusBusy; rw [getLsbD_setErr]; rfl
@[simp] theorem statusDone_setBusy (b : Bool) (w : Word) : statusDone (setBusy b w) = statusDone w := by
  unfold statusDone; rw [getLsbD_setBusy]; rfl
@[simp] theorem statusDone_setDone (b : Bool) (w : Word) : statusDone (setDone b w) = b := by
  unfold statusDone; rw [getLsbD_setDone]; rfl
@[simp] theorem statusDone_setFatal (b : Bool) (w : Word) : statusDone (setFatal b w) = statusDone w := by
  unfold statusDone; rw [getLsbD_setFatal]; rfl
@[simp] theorem statusDone_setErr (e : BitVec 4) (w : Word) : statusDone (setErr e w) = statusDone w := by
  unfold statusDone; rw [getLsbD_setErr]; rfl
@[simp] theorem statusFatal_setBusy (b : Bool) (w : Word) : statusFatal (setBusy b w) = statusFatal w := by
  unfold statusFatal; rw [getLsbD_setBusy]; rfl
@[simp] theorem statusFatal_setDone (b : Bool) (w : Word) : statusFatal (setDone b w) = statusFatal w := by
  unfold statusFatal; rw [getLsbD_setDone]; rfl
@[simp] theorem statusFatal_setFatal (b : Bool) (w : Word) : statusFatal (setFatal b w) = b := by
  unfold statusFatal; rw [getLsbD_setFatal]; rfl
@[simp] theorem statusFatal_setErr (e : BitVec 4) (w : Word) : statusFatal (setErr e w) = statusFatal w := by
  unfold statusFatal; rw [getLsbD_setErr]; rfl
@[simp] theorem statusErr_setBusy (b : Bool) (w : Word) :
    statusErr (setBusy b w) = statusErr w := by
  refine BitVec.eq_of_getLsbD_eq fun i hi => ?_
  simp only [statusErr, BitVec.getLsbD_extractLsb', getLsbD_setBusy]
  rw [if_neg (by omega)]
@[simp] theorem statusErr_setDone (b : Bool) (w : Word) :
    statusErr (setDone b w) = statusErr w := by
  refine BitVec.eq_of_getLsbD_eq fun i hi => ?_
  simp only [statusErr, BitVec.getLsbD_extractLsb', getLsbD_setDone]
  rw [if_neg (by omega)]
@[simp] theorem statusErr_setFatal (b : Bool) (w : Word) :
    statusErr (setFatal b w) = statusErr w := by
  refine BitVec.eq_of_getLsbD_eq fun i hi => ?_
  simp only [statusErr, BitVec.getLsbD_extractLsb', getLsbD_setFatal]
  rw [if_neg (by omega)]
@[simp] theorem statusErr_setErr (e : BitVec 4) (w : Word) : statusErr (setErr e w) = e := by
  refine BitVec.eq_of_getLsbD_eq fun i hi => ?_
  simp only [statusErr, BitVec.getLsbD_extractLsb', getLsbD_setErr]
  rw [if_pos (by omega)]
  simp [hi]
@[simp] theorem statusReservedLow_setBusy (b : Bool) (w : Word) :
    statusReservedLow (setBusy b w) = statusReservedLow w := by
  refine BitVec.eq_of_getLsbD_eq fun i hi => ?_
  simp only [statusReservedLow, BitVec.getLsbD_extractLsb', getLsbD_setBusy]
  rw [if_neg (by omega)]
@[simp] theorem statusReservedLow_setDone (b : Bool) (w : Word) :
    statusReservedLow (setDone b w) = statusReservedLow w := by
  refine BitVec.eq_of_getLsbD_eq fun i hi => ?_
  simp only [statusReservedLow, BitVec.getLsbD_extractLsb', getLsbD_setDone]
  rw [if_neg (by omega)]
@[simp] theorem statusReservedLow_setFatal (b : Bool) (w : Word) :
    statusReservedLow (setFatal b w) = statusReservedLow w := by
  refine BitVec.eq_of_getLsbD_eq fun i hi => ?_
  simp only [statusReservedLow, BitVec.getLsbD_extractLsb', getLsbD_setFatal]
  rw [if_neg (by omega)]
@[simp] theorem statusReservedLow_setErr (e : BitVec 4) (w : Word) :
    statusReservedLow (setErr e w) = statusReservedLow w := by
  refine BitVec.eq_of_getLsbD_eq fun i hi => ?_
  simp only [statusReservedLow, BitVec.getLsbD_extractLsb', getLsbD_setErr]
  by_cases h : i < 5
  · rw [if_neg (by omega)]
  · simp [h]
@[simp] theorem statusReservedHigh_setBusy (b : Bool) (w : Word) :
    statusReservedHigh (setBusy b w) = statusReservedHigh w := by
  refine BitVec.eq_of_getLsbD_eq fun i hi => ?_
  simp only [statusReservedHigh, BitVec.getLsbD_extractLsb', getLsbD_setBusy]
  rw [if_neg (by omega)]
@[simp] theorem statusReservedHigh_setDone (b : Bool) (w : Word) :
    statusReservedHigh (setDone b w) = statusReservedHigh w := by
  refine BitVec.eq_of_getLsbD_eq fun i hi => ?_
  simp only [statusReservedHigh, BitVec.getLsbD_extractLsb', getLsbD_setDone]
  rw [if_neg (by omega)]
@[simp] theorem statusReservedHigh_setFatal (b : Bool) (w : Word) :
    statusReservedHigh (setFatal b w) = statusReservedHigh w := by
  refine BitVec.eq_of_getLsbD_eq fun i hi => ?_
  simp only [statusReservedHigh, BitVec.getLsbD_extractLsb', getLsbD_setFatal]
  rw [if_neg (by omega)]
@[simp] theorem statusReservedHigh_setErr (e : BitVec 4) (w : Word) :
    statusReservedHigh (setErr e w) = statusReservedHigh w := by
  refine BitVec.eq_of_getLsbD_eq fun i hi => ?_
  simp only [statusReservedHigh, BitVec.getLsbD_extractLsb', getLsbD_setErr]
  by_cases h : i < 20
  · rw [if_neg (by omega)]
  · simp [h]

/-! ### Issue and completion (60_exceptions.md R201, R202) -/

@[simp] theorem statusBusy_statusIssued (w : Word) :
    statusBusy (statusIssued w) = true := by
  simp [statusIssued]
@[simp] theorem statusDone_statusIssued (w : Word) :
    statusDone (statusIssued w) = false := by
  simp [statusIssued]
@[simp] theorem statusFatal_statusIssued (w : Word) :
    statusFatal (statusIssued w) = statusFatal w := by
  simp [statusIssued]
@[simp] theorem statusErr_statusIssued (w : Word) :
    statusErr (statusIssued w) = 0#4 := by
  simp [statusIssued]
@[simp] theorem statusReservedLow_statusIssued (w : Word) :
    statusReservedLow (statusIssued w) = statusReservedLow w := by
  simp [statusIssued]
@[simp] theorem statusReservedHigh_statusIssued (w : Word) :
    statusReservedHigh (statusIssued w) = statusReservedHigh w := by
  simp [statusIssued]
@[simp] theorem statusBusy_statusSucceeded (w : Word) :
    statusBusy (statusSucceeded w) = false := by
  simp [statusSucceeded]
@[simp] theorem statusDone_statusSucceeded (w : Word) :
    statusDone (statusSucceeded w) = true := by
  simp [statusSucceeded]
@[simp] theorem statusFatal_statusSucceeded (w : Word) :
    statusFatal (statusSucceeded w) = statusFatal w := by
  simp [statusSucceeded]
@[simp] theorem statusErr_statusSucceeded (w : Word) :
    statusErr (statusSucceeded w) = 0#4 := by
  simp [statusSucceeded]
@[simp] theorem statusReservedLow_statusSucceeded (w : Word) :
    statusReservedLow (statusSucceeded w) = statusReservedLow w := by
  simp [statusSucceeded]
@[simp] theorem statusReservedHigh_statusSucceeded (w : Word) :
    statusReservedHigh (statusSucceeded w) = statusReservedHigh w := by
  simp [statusSucceeded]
@[simp] theorem statusBusy_statusFailed (e : CoreError) (w : Word) :
    statusBusy (statusFailed e w) = false := by
  cases e <;> simp [statusFailed, errorCode]
@[simp] theorem statusDone_statusFailed (e : CoreError) (w : Word) :
    statusDone (statusFailed e w) = true := by
  cases e <;> simp [statusFailed, errorCode]
@[simp] theorem statusFatal_statusFailed (e : CoreError) (w : Word) :
    statusFatal (statusFailed e w) = (statusFatal w || errorCode e == 3#4) := by
  cases e <;> simp [statusFailed, errorCode]
@[simp] theorem statusErr_statusFailed (e : CoreError) (w : Word) :
    statusErr (statusFailed e w) = errorCode e := by
  cases e <;> simp [statusFailed, errorCode]
@[simp] theorem statusReservedLow_statusFailed (e : CoreError) (w : Word) :
    statusReservedLow (statusFailed e w) = statusReservedLow w := by
  cases e <;> simp [statusFailed, errorCode]
@[simp] theorem statusReservedHigh_statusFailed (e : CoreError) (w : Word) :
    statusReservedHigh (statusFailed e w) = statusReservedHigh w := by
  cases e <;> simp [statusFailed, errorCode]

/-! ### The values STATUS takes (Safety: legalStatus) -/

theorem statusIssued_zero_fields (w : Word) (hf : statusFatal w = false) (hl : statusReservedLow w = 0)
    (hh : statusReservedHigh w = 0) : statusIssued w = 1#32 := by
  refine BitVec.eq_of_getLsbD_eq fun i hi => ?_
  have hl' : ∀ j, j < 5 → w.getLsbD (3 + j) = false := fun j hj => by
    have := congrArg (fun v => v.getLsbD j) hl
    simpa [statusReservedLow, hj] using this
  have hh' : ∀ j, j < 20 → w.getLsbD (12 + j) = false := fun j hj => by
    have := congrArg (fun v => v.getLsbD j) hh
    simpa [statusReservedHigh, hj] using this
  have hf' : w.getLsbD 2 = false := hf
  simp only [statusIssued, getLsbD_setErr, getLsbD_setDone, getLsbD_setBusy]
  rcases lt_or_ge i 3 with h | h
  · interval_cases i
    · rfl
    · rfl
    · simpa using hf'
  · have h1 : i ≠ 0 := by omega
    have h2 : i ≠ 1 := by omega
    have hone : (1#32).getLsbD i = false := by simp [BitVec.getLsbD_one, h1]
    rw [hone]
    by_cases h8 : 8 ≤ i ∧ i < 12
    · simp [h8]
    · simp only [h8, h1, h2, if_false]
      rcases lt_or_ge i 8 with h' | h'
      · have := hl' (i - 3) (by omega)
        rwa [show 3 + (i - 3) = i by omega] at this
      · have := hh' (i - 12) (by omega)
        rwa [show 12 + (i - 12) = i by omega] at this

end Sys2Proof.Machine
end

