-- ==== Sys2Proof/Laws/Memory.lean ====
section
/-! SUPPORT. The laws of SRC: a read after a write, the canonical form, and SRCBUF. -/

namespace Sys2Proof.Machine

theorem Memory.read?_write_same (m : Memory) (a : Nat) (v : Byte) :
    Memory.read? (Memory.write m a v) a = some v := by
  induction m with
  | nil => simp [Memory.write, Memory.read?]
  | cons c m ih =>
    obtain ⟨x, u⟩ := c
    by_cases h1 : a < x
    · simp [Memory.write, h1, Memory.read?]
    · by_cases h2 : x = a
      · simp [Memory.write, h2, Memory.read?]
      · simp [Memory.write, h1, h2, Memory.read?, ih]

theorem Memory.read?_write_other (m : Memory) (a b : Nat) (v : Byte) (h : b ≠ a) :
    Memory.read? (Memory.write m a v) b = Memory.read? m b := by
  induction m with
  | nil => simp [Memory.write, Memory.read?, Ne.symm h]
  | cons c m ih =>
    obtain ⟨x, u⟩ := c
    by_cases h1 : a < x
    · simp [Memory.write, h1, Memory.read?, Ne.symm h]
    · by_cases h2 : x = a
      · subst h2
        simp [Memory.write, Memory.read?, Ne.symm h]
      · simp only [Memory.write, h1, h2, if_false, Memory.read?, ih]

theorem Memory.mem_write (m : Memory) (a : Nat) (v : Byte) (c : Host.Cell)
    (h : c ∈ Memory.write m a v) : c = (a, v) ∨ c ∈ m := by
  induction m with
  | nil => simpa [Memory.write] using h
  | cons d m ih =>
    obtain ⟨x, u⟩ := d
    by_cases h1 : a < x
    · simpa [Memory.write, h1] using h
    · by_cases h2 : x = a
      · simp [Memory.write, h2] at h
        rcases h with h | h
        · exact .inl h
        · exact .inr (List.mem_cons_of_mem _ h)
      · simp [Memory.write, h1, h2] at h
        rcases h with h | h
        · exact .inr (by simp [h])
        · rcases ih h with h | h
          · exact .inl h
          · exact .inr (List.mem_cons_of_mem _ h)

/-- A write keeps the canonical form. -/
theorem Memory.wf_write (m : Memory) (a : Nat) (v : Byte) (hm : Memory.wf m)
    (ha : a < Config.srcSpace) : Memory.wf (Memory.write m a v) := by
  obtain ⟨hp, hb⟩ := hm
  refine ⟨?_, fun c hc => ?_⟩
  · clear hb
    induction m with
    | nil => simp [Memory.write]
    | cons d m ih =>
      obtain ⟨x, u⟩ := d
      obtain ⟨hx, hp'⟩ := List.pairwise_cons.mp hp
      by_cases h1 : a < x
      · simp only [Memory.write, h1, if_true]
        refine List.pairwise_cons.mpr ⟨fun c hc => ?_, hp⟩
        rcases List.mem_cons.mp hc with rfl | hc
        · exact h1
        · exact lt_trans h1 (hx c hc)
      · by_cases h2 : x = a
        · subst h2
          simp only [Memory.write, lt_irrefl, if_true, if_false]
          exact List.pairwise_cons.mpr ⟨hx, hp'⟩
        · simp only [Memory.write, h1, h2, if_false]
          refine List.pairwise_cons.mpr ⟨fun c hc => ?_, ih hp'⟩
          rcases Memory.mem_write m a v c hc with rfl | hc
          · exact lt_of_le_of_ne (Nat.le_of_not_lt h1) h2
          · exact hx c hc
  · rcases Memory.mem_write m a v c hc with rfl | hc
    · exact ha
    · exact hb c hc

theorem Memory.wf_nil : Memory.wf [] := ⟨List.Pairwise.nil, fun _ h => nomatch h⟩

@[simp] theorem State.length_srcBuf (s : State) (n : Nat) : (s.srcBuf n).length = n := by
  simp [State.srcBuf]

theorem State.getElem_srcBuf (s : State) (n i : Nat) (h : i < (s.srcBuf n).length) :
    (s.srcBuf n)[i] = s.srcByte i := by
  simp [State.srcBuf]

/-- SRCBUF is determined by the bytes below its length. -/
theorem State.srcBuf_congr (s t : State) (n : Nat) (h : ∀ a < n, s.srcByte a = t.srcByte a) :
    s.srcBuf n = t.srcBuf n := by
  simp only [State.srcBuf]
  exact List.map_congr_left fun a ha => h a (List.mem_range.mp ha)

/-- A byte of SRC depends on SRC and on the number of resets only. -/
theorem State.srcByte_congr (s t : State) (a : Nat) (hs : s.src = t.src) (hr : s.resets = t.resets) :
    s.srcByte a = t.srcByte a := by
  simp [State.srcByte, hs, hr]

end Sys2Proof.Machine
end

