-- ==== Sys2Proof/Laws/Ops.lean ====
section
/-! SUPPORT. One lemma per shared operation: everything it can do. -/

namespace Sys2Proof.Machine

/-! ### The core's operations -/

@[simp] theorem State.complete_ok (s : State) (r : Word) (bs : Bytes) :
    s.complete (.ok r bs) = s.succeed r bs := rfl

@[simp] theorem State.complete_err (s : State) (e : CoreError) : s.complete (.err e) = s.raise e := rfl

/-- Issue either drops the write or latches it (60_exceptions.md R201). -/
theorem State.issue_cases (s : State) (v : Word) :
    (s.fatal = false ∧ s.busy = false ∧ s.issue v = s.issued v) ∨
    ((s.fatal = true ∨ s.busy = true) ∧ s.issue v = s) := by
  unfold State.issue
  cases hf : s.fatal <;> cases hb : s.busy <;> simp

/-- The machine backs all of SRC, so a command always completes with its outcome. -/
theorem runCommand_eq (f : Config → Pend → Bytes → CmdOutcome) (s : State) :
    runCommand f s = .next (s.complete (f Config.machine s.pend (s.srcBuf s.pend.length))) := by
  have h : ¬ Config.machine.srcSize < s.pend.length := by
    have := s.pend.n.isLt
    simp only [Config.machine, Pend.length]
    omega
  simp only [runCommand, runWith, h, if_false]

/-- Every command completes with the outcome of its pseudocode (60_exceptions.md R202, R205). -/
theorem exec_eq (i : Instr) (s : State) :
    exec i s = .next (s.complete (outcomeOf i Config.machine s.pend (s.srcBuf s.pend.length))) := by
  cases i <;> exact runCommand_eq _ s

/-- Every latched word completes, a command or not (60_exceptions.md R205). -/
theorem completionStep_eq (s : State) :
    completionStep s =
      .next (s.complete (outcomeOfWord Config.machine s.pend (s.srcBuf s.pend.length))) := by
  unfold completionStep State.command outcomeOfWord
  cases decode s.pend.op with
  | command i => exact exec_eq i s
  | illegal w => rfl

/-- The core's turn: a completion while BUSY = 1, nothing otherwise. -/
theorem coreStep_cases (s : State) :
    (s.busy = true ∧ coreStep s =
      .next (s.complete (outcomeOfWord Config.machine s.pend (s.srcBuf s.pend.length)))) ∨
    (s.busy = false ∧ coreStep s = .next s) := by
  unfold coreStep
  cases h : s.busy with
  | true => exact .inl ⟨rfl, by simp [completionStep_eq]⟩
  | false => exact .inr ⟨rfl, by simp⟩

/-! ### The host's accesses -/

/-- A register stands at its own offset and at no other (20_memory.md R57). -/
theorem regAt_eq_some (o : Nat) (r : Reg) : regAt o = some r ↔ o = regOffset r := by
  constructor
  · intro h
    unfold regAt at h
    repeat' split at h
    all_goals cases h
    all_goals assumption
  · rintro rfl
    cases r <;> rfl

/-- Offsets 0x20 and above hold no register (10_state.md R29). -/
theorem regAt_reserved (o : Nat) (h : 0x20 ≤ o) : regAt o = none := by
  cases hr : regAt o with
  | none => rfl
  | some r =>
    have := (regAt_eq_some o r).mp hr
    cases r <;> simp only [regOffset] at this <;> omega

/-- A register read changes no state but the count of draws, and that only while BUSY = 1. -/
theorem readRegister_state (o : Nat) (s : State) :
    (readRegister o s).2 = s ∨ (s.busy = true ∧ (readRegister o s).2 = s.countDraw) := by
  unfold readRegister readWhenIdle
  cases s.busy <;> cases regAt o with
  | none => simp
  | some r => cases r <;> simp

/-- An OUT read changes no state but the count of draws, and that only while BUSY = 1. -/
theorem readOutByte_state (i : Nat) (s : State) :
    (readOutByte i s).2 = s ∨ (s.busy = true ∧ (readOutByte i s).2 = s.countDraw) := by
  unfold readOutByte
  cases s.busy <;> simp

/-- A register write issues, stores in one operand register, or does nothing (20_memory.md R56). -/
theorem writeRegister_cases (o : Nat) (v : Word) (s : State) :
    (regAt o = some .cmd ∧ writeRegister o v s = s.issue v) ∨
    (regAt o = some .width ∧ writeRegister o v s = s.setWidth v) ∨
    (regAt o = some .height ∧ writeRegister o v s = s.setHeight v) ∨
    (regAt o = some .srcLen ∧ writeRegister o v s = s.setSrcLen v) ∨
    (regAt o = some .typeTag ∧ writeRegister o v s = s.setTypeTag v) ∨
    ((regAt o = none ∨ regAt o = some .status ∨ regAt o = some .result ∨ regAt o = some .outLen) ∧
      writeRegister o v s = s) := by
  unfold writeRegister
  cases regAt o with
  | none => simp
  | some r => cases r <;> simp

/-- Everything a host access that has a next state can do. -/
theorem access_next {a : Access} {s t : State} (h : access a s = .next t) :
    a.wellFormed = true ∧
    ((∃ o b, a = .readReg o b ∧ t = (readRegister o s).2.pushReading (.word (readRegister o s).1)) ∨
     (∃ o b v, a = .writeReg o b v ∧ t = writeRegister o v s) ∨
     (∃ x b, a = .readSrc x b ∧ x < Config.srcSpace ∧ t = s.pushReading (.byte (s.srcByte x))) ∨
     (∃ x b v, a = .writeSrc x b v ∧ x < Config.srcSpace ∧ s.ownedByCore x = false ∧
        t = s.storeSrc x v) ∨
     (∃ i b, a = .readOut i b ∧ t = (readOutByte i s).2.pushReading (.byte (readOutByte i s).1)) ∨
     (a = .reset ∧ t = s.applyReset)) := by
  unfold access at h
  split at h
  case isFalse => cases h
  case isTrue hw =>
    refine ⟨hw, ?_⟩
    cases a with
    | readReg o b => simp only [Host.Outcome.next.injEq] at h; exact .inl ⟨o, b, rfl, h.symm⟩
    | writeReg o b v =>
      simp only [Host.Outcome.next.injEq] at h; exact .inr (.inl ⟨o, b, v, rfl, h.symm⟩)
    | readSrc x b =>
      simp only at h
      split at h
      · cases h
      · simp only [Host.Outcome.next.injEq] at h
        exact .inr (.inr (.inl ⟨x, b, rfl, by omega, h.symm⟩))
    | writeSrc x b v =>
      simp only at h
      split at h
      · cases h
      · split at h
        · cases h
        · simp only [Host.Outcome.next.injEq] at h
          exact .inr (.inr (.inr (.inl ⟨x, b, v, rfl, by omega, by simp_all, h.symm⟩)))
    | readOut i b =>
      simp only [Host.Outcome.next.injEq] at h
      exact .inr (.inr (.inr (.inr (.inl ⟨i, b, rfl, h.symm⟩))))
    | reset =>
      simp only [Host.Outcome.next.injEq] at h
      exact .inr (.inr (.inr (.inr (.inr ⟨rfl, h.symm⟩))))

/-! ### The step -/

@[simp] theorem State.passTurn_of_none (s : State) (h : s.turns = []) : s.passTurn = s := by
  unfold State.passTurn
  rw [h, List.tail_nil, ← h]

/-- A step is a step of the agent whose turn it is (60_exceptions.md R200). -/
theorem step_cases (s : State) :
    (s.mover = .core ∧ step s = coreStep s.passTurn) ∨ (s.mover = .host ∧ step s = hostStep s.passTurn) := by
  unfold step
  cases h : s.mover <;> simp

end Sys2Proof.Machine
end

