-- ==== Sys2Proof/Laws/Bytes.lean ====
section
/-! SUPPORT. Small lemmas of the serialisers, the readers and the checksum runs. -/

namespace Sys2Proof.Machine

@[simp] theorem length_be32 (v : Word) : (be32 v).length = 4 := rfl

@[simp] theorem length_le16 (v : BitVec 16) : (le16 v).length = 2 := rfl

@[simp] theorem length_zlibHeader : zlibHeader.length = 2 := rfl

@[simp] theorem length_signature : signature.length = 8 := rfl

@[simp] theorem length_tagIHDR : tagIHDR.length = 4 := rfl

@[simp] theorem length_tagIDAT : tagIDAT.length = 4 := rfl

@[simp] theorem length_tagIEND : tagIEND.length = 4 := rfl

@[simp] theorem length_blockHeader (f : Bool) (n : BitVec 16) : (blockHeader f n).length = 5 := rfl

@[simp] theorem length_ihdrPayload (w h : Word) : (ihdrPayload w h).length = 13 := rfl

/-- A 32-bit number serialised big-endian is read back. -/
theorem be32_join (v : Word) :
    (v.extractLsb' 24 8 ++ v.extractLsb' 16 8 ++ v.extractLsb' 8 8 ++ v.extractLsb' 0 8 : BitVec 32) = v := by
  refine BitVec.eq_of_getLsbD_eq fun i hi => ?_
  simp only [BitVec.getLsbD_append, BitVec.getLsbD_extractLsb']
  interval_cases i <;> simp

theorem readBe32_be32 (v : Word) (rest : Bytes) : readBe32 (be32 v ++ rest) = some (v, rest) := by
  simp only [be32, List.cons_append, List.nil_append, readBe32, be32_join]

/-- A 16-bit number serialised little-endian is read back. -/
theorem le16_join (v : BitVec 16) : (v.extractLsb' 8 8 ++ v.extractLsb' 0 8 : BitVec 16) = v := by
  refine BitVec.eq_of_getLsbD_eq fun i hi => ?_
  simp only [BitVec.getLsbD_append, BitVec.getLsbD_extractLsb']
  interval_cases i <;> simp

/-- A length below 2^32 is what its length field holds. -/
theorem toNat_lengthWord (s : Bytes) (h : s.length < 4294967296) : (lengthWord s).toNat = s.length := by
  simp only [lengthWord, BitVec.toNat_ofNat]
  omega

theorem readBytes_append (s rest : Bytes) : readBytes s.length (s ++ rest) = some (s, rest) := by
  simp [readBytes]

@[simp] theorem crcRun_nil (c : Word) : crcRun c [] = c := rfl

@[simp] theorem crcRun_cons (c : Word) (x : Byte) (s : Bytes) :
    crcRun c (x :: s) = crcRun (crcByte c x) s := rfl

/-- Feeding a concatenation is feeding its parts in turn (40_checksum.md R106). -/
theorem crcRun_append (c : Word) (s t : Bytes) : crcRun c (s ++ t) = crcRun (crcRun c s) t :=
  List.foldl_append ..

@[simp] theorem adlerRun_nil (r : AdlerSums) : adlerRun r [] = r := rfl

@[simp] theorem adlerRun_cons (r : AdlerSums) (x : Byte) (s : Bytes) :
    adlerRun r (x :: s) = adlerRun (adlerByte r x) s := rfl

/-- Feeding a concatenation is feeding its parts in turn (40_checksum.md R113). -/
theorem adlerRun_append (r : AdlerSums) (s t : Bytes) :
    adlerRun r (s ++ t) = adlerRun (adlerRun r s) t := List.foldl_append ..

@[simp] theorem feed_nil (f : Byte → Units → UnitStep) (u : Units) : feed f [] u = (u, []) := rfl

@[simp] theorem feed_cons (f : Byte → Units → UnitStep) (x : Byte) (s : Bytes) (u : Units) :
    feed f (x :: s) u = ((feed f s (f x u).1).1, (f x u).2 ++ (feed f s (f x u).1).2) := rfl

/-- Feeding a concatenation to a unit is feeding its parts in turn. -/
theorem feed_append (f : Byte → Units → UnitStep) (s t : Bytes) (u : Units) :
    feed f (s ++ t) u = ((feed f t (feed f s u).1).1, (feed f s u).2 ++ (feed f t (feed f s u).1).2) := by
  induction s generalizing u with
  | nil => simp
  | cons x s ih => simp [ih]

end Sys2Proof.Machine
end

