-- ==== Sys2Proof/Laws/Step.lean ====
section
/-! SUPPORT. Everything a step of the host and a step of the machine can do: the inversion lemmas
later proofs cite instead of unfolding `hostStep` and `step`. -/

namespace Sys2Proof.Machine

/-- A read of OUT_LEN that expands the program changes the host's side and the count of draws only. -/
theorem readLengthThen_eq (f : Nat → List HostStep) (s : State) :
    ∃ p v, readLengthThen f s = (s.pushReading v).setProgram p ∨
      (s.busy = true ∧ readLengthThen f s = (s.countDraw.pushReading v).setProgram p) := by
  rcases readRegister_state (regOffset .outLen) s with h | ⟨hb, h⟩
  · exact ⟨_, _, .inl (by simp only [readLengthThen, h]; rfl)⟩
  · exact ⟨_, _, .inr ⟨hb, by simp only [readLengthThen, h]; rfl⟩⟩

/-- A host step that has a next state is an access at the head of the program, or changes the host's
side and the count of draws only. -/
theorem hostStep_next {s t : State} (h : hostStep s = .next t) :
    (∃ a rest, s.program = .access a :: rest ∧ access a (s.setProgram rest) = .next t) ∨
    (∃ p, t = s.setProgram p) ∨
    (∃ p v, t = (s.pushReading v).setProgram p) ∨
    (s.busy = true ∧ ∃ p v, t = (s.countDraw.pushReading v).setProgram p) := by
  unfold hostStep at h
  split at h
  case h_1 => cases h; exact .inr (.inl ⟨s.program, rfl⟩)
  case h_2 a rest hp => exact .inl ⟨a, rest, hp, h⟩
  case h_3 rest _ =>
    cases h
    refine .inr (.inr (.inl ?_))
    split
    · exact ⟨s.program, _, rfl⟩
    · exact ⟨rest, _, rfl⟩
  case h_4 rest _ =>
    cases h
    obtain ⟨p, v, h | ⟨hb, h⟩⟩ := readLengthThen_eq readOuts (s.setProgram rest)
    · exact .inr (.inr (.inl ⟨p, v, h⟩))
    · exact .inr (.inr (.inr ⟨hb, p, v, h⟩))
  case h_5 rest _ =>
    cases h
    obtain ⟨p, v, h | ⟨hb, h⟩⟩ := readLengthThen_eq (fun k => readOuts k ++ [.reload k]) (s.setProgram rest)
    · exact .inr (.inr (.inl ⟨p, v, h⟩))
    · exact .inr (.inr (.inr ⟨hb, p, v, h⟩))
  case h_6 => cases h; exact .inr (.inl ⟨_, rfl⟩)

/-- What a host step can do to the core: nothing but a draw, an issue at the head of the program, an
operand register, an SRC byte, or reset. `s'` is `s` up to the host's side and the count of draws. -/
theorem hostStep_core {s t : State} (h : hostStep s = .next t) :
    (t.status = s.status ∧ t.pend = s.pend ∧ t.units = s.units ∧ t.result = s.result ∧
      t.outLen = s.outLen ∧ t.out = s.out ∧ t.completions = s.completions ∧ t.resets = s.resets ∧
      t.turns = s.turns ∧
      (t.src = s.src ∨ ∃ x v, x < Config.srcSpace ∧ s.ownedByCore x = false ∧ t.src = Memory.write s.src x v)) ∨
    (s.fatal = false ∧ s.busy = false ∧
      ∃ v rest, s.program = .access (.writeReg 0x00 32 v) :: rest ∧ t = (s.setProgram rest).issued v) ∨
    (∃ rest, s.program = .access .reset :: rest ∧ t = (s.setProgram rest).applyReset) := by
  rcases hostStep_next h with ⟨a, rest, hp, ha⟩ | ⟨p, rfl⟩ | ⟨p, v, rfl⟩ | ⟨_, p, v, rfl⟩
  case inr.inl => exact .inl (by simp)
  case inr.inr.inl => exact .inl (by simp)
  case inr.inr.inr => exact .inl (by simp)
  case inl =>
    obtain ⟨hw, ha⟩ := access_next ha
    rcases ha with ⟨o, b, rfl, rfl⟩ | ⟨o, b, v, rfl, rfl⟩ | ⟨x, b, rfl, hx, rfl⟩ |
      ⟨x, b, v, rfl, hx, ho, rfl⟩ | ⟨i, b, rfl, rfl⟩ | ⟨rfl, rfl⟩
    · rcases readRegister_state o (s.setProgram rest) with h | ⟨_, h⟩ <;> exact .inl (by simp [h])
    · rcases writeRegister_cases o v (s.setProgram rest) with
        ⟨ho, h⟩ | ⟨_, h⟩ | ⟨_, h⟩ | ⟨_, h⟩ | ⟨_, h⟩ | ⟨_, h⟩
      · rcases State.issue_cases (s.setProgram rest) v with ⟨hf, hb, h'⟩ | ⟨_, h'⟩
        · obtain rfl : o = 0 := (regAt_eq_some o .cmd).mp ho
          obtain rfl : b = 32 := by simpa [Access.wellFormed] using hw
          exact .inr (.inl ⟨hf, hb, v, rest, hp, by rw [h, h']⟩)
        · exact .inl (by simp [h, h'])
      all_goals exact .inl (by simp [h])
    · exact .inl (by simp)
    · exact .inl ⟨rfl, rfl, rfl, rfl, rfl, rfl, rfl, rfl, rfl, .inr ⟨x, v, hx, ho, rfl⟩⟩
    · rcases readOutByte_state i (s.setProgram rest) with h | ⟨_, h⟩ <;> exact .inl (by simp [h])
    · exact .inr (.inr ⟨rest, hp, rfl⟩)

/-- Everything a step can do to the core (60_exceptions.md R200): a completion, a host step, or nothing. -/
theorem step_next {s t : State} (h : step s = .next t) :
    (s.mover = .core ∧ s.busy = true ∧
      t = s.passTurn.complete (outcomeOfWord Config.machine s.pend (s.srcBuf s.pend.length))) ∨
    (s.mover = .core ∧ s.busy = false ∧ t = s.passTurn) ∨
    (s.mover = .host ∧ hostStep s.passTurn = .next t) := by
  rcases step_cases s with ⟨hm, hs⟩ | ⟨hm, hs⟩
  · rw [hs] at h
    rcases coreStep_cases s.passTurn with ⟨hb, h'⟩ | ⟨hb, h'⟩
    · rw [h'] at h; cases h; exact .inl ⟨hm, hb, rfl⟩
    · rw [h'] at h; cases h; exact .inr (.inl ⟨hm, hb, rfl⟩)
  · rw [hs] at h; exact .inr (.inr ⟨hm, h⟩)

end Sys2Proof.Machine
end

