-- ==== Sys2Proof/Laws/Operands.lean ====
section
/-! SUPPORT. What each operand check says (60_exceptions.md R207, R208, R211), as propositions over
the naturals, and bounds of the operands. -/

namespace Sys2Proof.Machine

theorem tooLong_eq_true (n : Nat) : tooLong n = true ↔ 4294967295 < n := by
  unfold tooLong
  exact decide_eq_true_iff

theorem tooLong_eq_false (n : Nat) : tooLong n = false ↔ n ≤ 4294967295 := by
  unfold tooLong
  exact decide_eq_false_iff_not.trans Nat.not_lt

theorem invalidDims_eq_true (c : Config) (w h : Nat) :
    invalidDims c w h = true ↔ w = 0 ∨ h = 0 ∨ c.maxDim < w ∨ c.maxDim < h := by
  simp only [invalidDims, Bool.or_eq_true, beq_iff_eq, decide_eq_true_eq, or_assoc]

theorem lengthMismatch_eq_true (w h n : Nat) : lengthMismatch w h n = true ↔ n ≠ w * h * 4 := by
  simp only [lengthMismatch, bne_iff_ne]

theorem lengthMismatch_eq_false (w h n : Nat) : lengthMismatch w h n = false ↔ n = w * h * 4 := by
  simp [lengthMismatch]

theorem Pend.width_eq (p : Pend) : p.width = p.w.toNat := rfl

theorem Pend.height_eq (p : Pend) : p.height = p.h.toNat := rfl

theorem Pend.length_eq (p : Pend) : p.length = p.n.toNat := rfl

theorem Pend.tag_eq (p : Pend) : p.tag = be32 p.t := rfl

theorem Pend.length_lt (p : Pend) : p.length < 4294967296 := p.n.isLt

/-- `N` is the least number of blocks of 65535 bytes that hold `n` bytes, and at least 1
(41_stored_deflate.md R132). -/
theorem blockCount_bounds (n : Nat) :
    1 ≤ blockCount n ∧ n ≤ blockCount n * 65535 ∧
      (blockCount n = 1 ∨ (blockCount n - 1) * 65535 < n) := by
  unfold blockCount blockMax
  omega

end Sys2Proof.Machine
end

