-- ==== Sys2Proof/Laws/PerInstr.lean ====
section
/-! SUPPORT. Statements made per instruction: every command's word has format C (30_encoding.md R81). -/

namespace Sys2Proof.Laws.FormatC

/-- The instruction is well formed, and so is its command word: bits 31:8 zero, opcode 1 to 7. -/
def Statement (i : Instr) : Prop :=
  i.wellFormed = true ∧ commandWordWellFormed (Sys2Proof.encode i) = true

theorem crc32 : Statement .crc32 := by unfold Statement; decide
theorem adler32 : Statement .adler32 := by unfold Statement; decide
theorem pack : Statement .pack := by unfold Statement; decide
theorem chunk : Statement .chunk := by unfold Statement; decide
theorem assemble : Statement .assemble := by unfold Statement; decide
theorem filter : Statement .filter := by unfold Statement; decide
theorem encode : Statement .encode := by unfold Statement; decide

end Sys2Proof.Laws.FormatC
end

