-- ==== Sys2Proof/Tests/Slice0.lean ====
section
/-! SUPPORT. The model's own tests: ill-formed terms the checks refuse, command words written out from
30_encoding.md R81 and R84, one step of each command against the vectors of 95_test_vectors.md, and a
witness for the hypotheses of every statement. Expected values come from spec/, never from the model. -/

open Sys2Proof Sys2Proof.Machine

namespace Sys2Proof.Tests

-- One kernel evaluation at a time, so that the check stays inside its memory.
set_option Elab.async false

/-! ### Small states -/

/-- SRC holding `s` from address 0. -/
def srcOf (s : Bytes) : Memory := s.zipIdx.map (fun c => (c.2, c.1))

/-- The host has written the operands and `s`, and nothing is issued. -/
def loaded (w h t : Word) (s : Bytes) : State :=
  { State.reset with width := w, height := h, typeTag := t, srcLen := lengthWord s, src := srcOf s }

/-- The same with the word `op` issued (60_exceptions.md R201). -/
def busyWith (op w h t : Word) (s : Bytes) : State := (loaded w h t s).issued op

/-- A command in progress whose latch holds these operands; SRC is as after reset. -/
def latched (op w h n t : Word) : State :=
  { State.reset with status := 1, pend := { op := op, w := w, h := h, n := n, t := t } }

/-- A fatal core (60_exceptions.md R216). -/
def fatalState : State := { State.reset with status := 0x306 }

/-- An idle core that shows `s` as the output of its last command. -/
def shows (s : Bytes) : State := { State.reset with status := 2, out := s, outLen := lengthWord s }

/-- What a check says of the next state; false where there is none. -/
def nextIs (o : Host.Outcome State Fault Refusal) (f : State → Bool) : Bool :=
  match o with
  | .next t => f t
  | .fault _ => false
  | .refused _ => false

/-- RESULT, OUT, OUT_LEN and STATUS of the next state. -/
def leaves (o : Host.Outcome State Fault Refusal) (result : Word) (bytes : Bytes) (len status : Word) : Bool :=
  nextIs o fun t => t.result == result && t.out == bytes && t.outLen == len && t.status == status

/-! ### WellFormed refuses ill-formed terms (20_memory.md R55, 30_encoding.md R81, 00_scope.md R6) -/

theorem test_illformed_readReg_width : (Access.readReg 0x04 16).wellFormed = false := by decide
theorem test_illformed_readReg_alignment : (Access.readReg 0x06 32).wellFormed = false := by decide
theorem test_illformed_writeReg_width : (Access.writeReg 0x00 8 1).wellFormed = false := by decide
theorem test_illformed_writeReg_alignment : (Access.writeReg 0x01 32 1).wellFormed = false := by decide
theorem test_illformed_readSrc_width : (Access.readSrc 0 32).wellFormed = false := by decide
theorem test_illformed_writeSrc_width : (Access.writeSrc 0 16 1).wellFormed = false := by decide
theorem test_illformed_readOut_width : (Access.readOut 0 32).wellFormed = false := by decide
theorem test_illformed_host_step : (HostStep.access (.readOut 0 16)).wellFormed = false := by decide
theorem test_illformed_word_zero_field : commandWordWellFormed 0x00000101 = false := by decide
theorem test_illformed_word_opcode_low : commandWordWellFormed 0x00000000 = false := by decide
theorem test_illformed_word_opcode_high : commandWordWellFormed 0x00000008 = false := by decide
theorem test_illformed_config_maxDim_low : ¬ ({ maxDim := 0, srcSize := 1 } : Config).legal := by decide
theorem test_illformed_config_maxDim_high : ¬ ({ maxDim := 4294967296, srcSize := 1 } : Config).legal := by decide
theorem test_illformed_config_srcSize_low : ¬ ({ maxDim := 1, srcSize := 0 } : Config).legal := by decide
theorem test_illformed_config_srcSize_high : ¬ ({ maxDim := 1, srcSize := 4294967297 } : Config).legal := by decide
theorem test_machine_config_legal : Config.machine.legal := by decide

/-! ### Command words, bit by bit (30_encoding.md R81, R84, R85) -/

theorem test_word_crc32 : decode 0b00000000000000000000000000000001#32 = .command .crc32 := by decide
theorem test_word_adler32 : decode 0b00000000000000000000000000000010#32 = .command .adler32 := by decide
theorem test_word_pack : decode 0b00000000000000000000000000000011#32 = .command .pack := by decide
theorem test_word_chunk : decode 0b00000000000000000000000000000100#32 = .command .chunk := by decide
theorem test_word_assemble : decode 0b00000000000000000000000000000101#32 = .command .assemble := by decide
theorem test_word_filter : decode 0b00000000000000000000000000000110#32 = .command .filter := by decide
theorem test_word_encode : decode 0b00000000000000000000000000000111#32 = .command .encode := by decide
theorem test_word_opcode_zero : decode 0b00000000000000000000000000000000#32 = .illegal .reservedOpcode := by decide
theorem test_word_opcode_eight : decode 0b00000000000000000000000000001000#32 = .illegal .reservedOpcode := by decide
theorem test_word_opcode_ff : decode 0b00000000000000000000000011111111#32 = .illegal .reservedOpcode := by decide
theorem test_word_bit_eight : decode 0b00000000000000000000000100000001#32 = .illegal .zeroFieldNotZero := by decide
theorem test_word_bit_31 : decode 0b10000000000000000000000000000111#32 = .illegal .zeroFieldNotZero := by decide
theorem test_table_word_crc32 : decodeTableWord 32 1 = some .crc32 := by decide
theorem test_table_word_adler32 : decodeTableWord 32 2 = some .adler32 := by decide
theorem test_table_word_pack : decodeTableWord 32 3 = some .pack := by decide
theorem test_table_word_chunk : decodeTableWord 32 4 = some .chunk := by decide
theorem test_table_word_assemble : decodeTableWord 32 5 = some .assemble := by decide
theorem test_table_word_filter : decodeTableWord 32 6 = some .filter := by decide
theorem test_table_word_encode : decodeTableWord 32 7 = some .encode := by decide
theorem test_table_word_too_long : decodeTableWord 40 1 = none := by decide

/-! ### The first command after reset is run by the next step (60_exceptions.md R202, R231 of
70_reset_and_hazards.md; vectors V-X15 to V-X19) -/

theorem test_reset_crc32 :
    leaves (step (State.reset.withFetchWord 32 1)) 0 [] 0 2 = true := by decide +kernel
theorem test_reset_adler32 :
    leaves (step (State.reset.withFetchWord 32 2)) 1 [] 0 2 = true := by decide +kernel
theorem test_reset_pack :
    leaves (step (State.reset.withFetchWord 32 3)) 0 [0x78#8, 0x01#8, 0x01#8, 0x00#8, 0x00#8, 0xFF#8, 0xFF#8, 0x00#8, 0x00#8, 0x00#8, 0x01#8] 11 2 = true := by decide +kernel
theorem test_reset_chunk :
    leaves (step (State.reset.withFetchWord 32 4)) 0 [0x00#8, 0x00#8, 0x00#8, 0x00#8, 0x00#8, 0x00#8, 0x00#8, 0x00#8, 0x21#8, 0x44#8, 0xDF#8, 0x1C#8] 12 2 = true := by decide +kernel
theorem test_reset_assemble :
    leaves (step (State.reset.withFetchWord 32 5)) 0 [] 0 0x102 = true := by decide +kernel
theorem test_reset_filter :
    leaves (step (State.reset.withFetchWord 32 6)) 0 [] 0 0x102 = true := by decide +kernel
theorem test_reset_encode :
    leaves (step (State.reset.withFetchWord 32 7)) 0 [] 0 0x102 = true := by decide +kernel
theorem test_reset_illegal :
    leaves (step (State.reset.withFetchWord 32 263)) 0 [] 0 0x502 = true := by decide +kernel

/-! ### One completion of each command (95_test_vectors.md) -/

/-- V-C3. -/
theorem test_crc32_123456789 :
    leaves (coreStep (busyWith 1 0 0 0
      [0x31#8, 0x32#8, 0x33#8, 0x34#8, 0x35#8, 0x36#8, 0x37#8, 0x38#8, 0x39#8]))
      0xCBF43926
      []
      0 2 = true := by
  decide +kernel

/-- V-C2. -/
theorem test_crc32_zero_byte :
    leaves (coreStep (busyWith 1 5 0 7
      [0x00#8]))
      0xD202EF8D
      []
      0 2 = true := by
  decide +kernel

/-- V-A3. -/
theorem test_adler32_wikipedia :
    leaves (coreStep (busyWith 2 0 0 0
      [0x57#8, 0x69#8, 0x6B#8, 0x69#8, 0x70#8, 0x65#8, 0x64#8, 0x69#8, 0x61#8]))
      0x11E60398
      []
      0 2 = true := by
  decide +kernel

/-- V-A8. -/
theorem test_adler32_ff :
    leaves (coreStep (busyWith 2 0 0 0
      [0xFF#8, 0xFF#8, 0xFF#8, 0xFF#8]))
      0x09FA03FD
      []
      0 2 = true := by
  decide +kernel

/-- V-P3. -/
theorem test_pack_abc :
    leaves (coreStep (busyWith 3 0 0 0
      [0x61#8, 0x62#8, 0x63#8]))
      0
      [0x78#8, 0x01#8, 0x01#8, 0x03#8, 0x00#8, 0xFC#8, 0xFF#8, 0x61#8, 0x62#8, 0x63#8, 0x02#8, 0x4D#8, 0x01#8, 0x27#8]
      14 2 = true := by
  decide +kernel

/-- V-P2. -/
theorem test_pack_one :
    leaves (coreStep (busyWith 3 0 0 0
      [0x61#8]))
      0
      [0x78#8, 0x01#8, 0x01#8, 0x01#8, 0x00#8, 0xFE#8, 0xFF#8, 0x61#8, 0x00#8, 0x62#8, 0x00#8, 0x62#8]
      12 2 = true := by
  decide +kernel

/-- V-K4. -/
theorem test_chunk_text :
    leaves (coreStep (busyWith 4 0 0 0x74455874
      [0x41#8]))
      0
      [0x00#8, 0x00#8, 0x00#8, 0x01#8, 0x74#8, 0x45#8, 0x58#8, 0x74#8, 0x41#8, 0x4E#8, 0x9D#8, 0xAB#8, 0xE1#8]
      13 2 = true := by
  decide +kernel

/-- V-K9. -/
theorem test_chunk_not_ascii :
    leaves (coreStep (busyWith 4 0 0 0xFFFFFFFF
      []))
      0
      [0x00#8, 0x00#8, 0x00#8, 0x00#8, 0xFF#8, 0xFF#8, 0xFF#8, 0xFF#8, 0xFF#8, 0xFF#8, 0xFF#8, 0xFF#8]
      12 2 = true := by
  decide +kernel

/-- V-S2. -/
theorem test_assemble_big_endian :
    leaves (coreStep (busyWith 5 0x01020304 0xA0B0C0D0 0
      [0x61#8, 0x62#8, 0x63#8]))
      0
      [0x89#8, 0x50#8, 0x4E#8, 0x47#8, 0x0D#8, 0x0A#8, 0x1A#8, 0x0A#8, 0x00#8, 0x00#8, 0x00#8, 0x0D#8, 0x49#8, 0x48#8, 0x44#8, 0x52#8, 0x01#8, 0x02#8, 0x03#8, 0x04#8, 0xA0#8, 0xB0#8, 0xC0#8, 0xD0#8, 0x08#8, 0x06#8, 0x00#8, 0x00#8, 0x00#8, 0x76#8, 0x5E#8, 0x2A#8, 0x9C#8, 0x00#8, 0x00#8, 0x00#8, 0x03#8, 0x49#8, 0x44#8, 0x41#8, 0x54#8, 0x61#8, 0x62#8, 0x63#8, 0x33#8, 0xAF#8, 0xD6#8, 0x72#8, 0x00#8, 0x00#8, 0x00#8, 0x00#8, 0x49#8, 0x45#8, 0x4E#8, 0x44#8, 0xAE#8, 0x42#8, 0x60#8, 0x82#8]
      60 2 = true := by
  decide +kernel

/-- V-S5. -/
theorem test_assemble_zero_width :
    leaves (coreStep (busyWith 5 0 1 0
      [0x61#8]))
      0
      []
      0 0x102 = true := by
  decide +kernel

/-- V-F4. -/
theorem test_filter_three_rows :
    leaves (coreStep (busyWith 6 1 3 0
      [0x01#8, 0x02#8, 0x03#8, 0x04#8, 0x05#8, 0x06#8, 0x07#8, 0x08#8, 0x09#8, 0x0A#8, 0x0B#8, 0x0C#8]))
      0
      [0x00#8, 0x01#8, 0x02#8, 0x03#8, 0x04#8, 0x00#8, 0x05#8, 0x06#8, 0x07#8, 0x08#8, 0x00#8, 0x09#8, 0x0A#8, 0x0B#8, 0x0C#8]
      15 2 = true := by
  decide +kernel

/-- V-F9. -/
theorem test_filter_mismatch :
    leaves (coreStep (busyWith 6 2 2 0
      [0xFF#8, 0x00#8, 0x00#8, 0xFF#8, 0x00#8, 0xFF#8, 0x00#8, 0xFF#8, 0x00#8, 0x00#8, 0xFF#8, 0xFF#8, 0xFF#8, 0xFF#8, 0xFF#8]))
      0
      []
      0 0x202 = true := by
  decide +kernel

/-- V-E1. -/
theorem test_encode_two_by_two :
    leaves (coreStep (busyWith 7 2 2 0
      [0xFF#8, 0x00#8, 0x00#8, 0xFF#8, 0x00#8, 0xFF#8, 0x00#8, 0xFF#8, 0x00#8, 0x00#8, 0xFF#8, 0xFF#8, 0xFF#8, 0xFF#8, 0xFF#8, 0x00#8]))
      0
      imageTwoByTwo
      86 2 = true := by
  decide +kernel

/-- V-E10. -/
theorem test_encode_mismatch_after_dimensions :
    leaves (coreStep (busyWith 7 2 2 0
      [0xFF#8, 0x00#8, 0x00#8, 0xFF#8, 0x00#8, 0xFF#8, 0x00#8, 0xFF#8, 0x00#8, 0x00#8, 0xFF#8, 0xFF#8, 0xFF#8, 0xFF#8, 0xFF#8, 0x00#8, 0x00#8, 0x00#8, 0x00#8, 0x00#8]))
      0
      []
      0 0x202 = true := by
  decide +kernel

/-! ### Errors at the edges, no SRC byte read (95_test_vectors.md) -/

/-- V-F13: lengths agree, the output is too long. -/
theorem test_filter_overflow :
    leaves (coreStep (latched 6 1 1073741823 4294967292 0)) 0 [] 0 0x402 = true := by decide +kernel

/-- V-F11: the product 2^34 is not wrapped to 0. -/
theorem test_filter_product_not_wrapped :
    leaves (coreStep (latched 6 65536 65536 0 0)) 0 [] 0 0x202 = true := by decide +kernel

/-- V-P14. -/
theorem test_pack_overflow : leaves (coreStep (latched 3 0 0 4294639625 0)) 0 [] 0 0x402 = true := by
  decide +kernel

/-- V-E13. -/
theorem test_encode_overflow :
    leaves (coreStep (latched 7 1 858927915 3435711660 0)) 0 [] 0 0x402 = true := by decide +kernel

/-- V-S8: dimensions before length. -/
theorem test_assemble_priority :
    leaves (coreStep (latched 5 0 0 4294967295 0)) 0 [] 0 0x102 = true := by decide +kernel

/-! ### Two streaming transitions (worked examples of 41_stored_deflate.md R139, 42_chunk.md R159) -/

/-- V-P3 by the framer's transitions. -/
theorem test_framer_abc :
    (framerRun 3 [0x61#8, 0x62#8, 0x63#8] Units.atReset).2 =
      [0x78#8, 0x01#8, 0x01#8, 0x03#8, 0x00#8, 0xFC#8, 0xFF#8, 0x61#8, 0x62#8, 0x63#8, 0x02#8, 0x4D#8,
        0x01#8, 0x27#8] := by decide +kernel

/-- V-E1 by one pass of all the units. -/
theorem test_single_pass_two_by_two :
    (encodeStream 2 2 [0xFF#8, 0x00#8, 0x00#8, 0xFF#8, 0x00#8, 0xFF#8, 0x00#8, 0xFF#8, 0x00#8, 0x00#8, 0xFF#8, 0xFF#8, 0xFF#8, 0xFF#8, 0xFF#8, 0x00#8] Units.atReset).2 = imageTwoByTwo := by
  decide +kernel

/-! ### The host protocol (95_test_vectors.md section 9) -/

/-- V-X7. -/
theorem test_issue_status :
    nextIs (access (.writeReg 0x00 32 1) (loaded 0 0 0 [0x31#8])) (fun t => t.status == 1 && t.pend.n == 1) =
      true := by decide +kernel

/-- V-X8: a CMD write while busy is dropped. -/
theorem test_issue_dropped :
    nextIs (access (.writeReg 0x00 32 3) (busyWith 1 0 0 0 [])) (fun t => t == busyWith 1 0 0 0 []) = true := by
  decide +kernel

/-- V-X10: issue clears ERR and DONE. -/
theorem test_issue_clears_error :
    nextIs (access (.writeReg 0x00 32 1) { State.reset with status := 0x202 }) (fun t => t.status == 1) =
      true := by decide +kernel

/-- V-X11: the read-only registers ignore writes. -/
theorem test_read_only_registers :
    nextIs (access (.writeReg 0x18 32 0xFFFFFFFF) (shows [1#8])) (fun t => t == shows [1#8]) = true := by
  decide +kernel

/-- V-X14: reset while busy. -/
theorem test_reset_while_busy :
    nextIs (access .reset (busyWith 1 2 3 4 [5#8]))
      (fun t => t == { State.reset with resets := 1 }) = true := by decide +kernel

/-- 10_state.md R35, 70_reset_and_hazards.md R235: the last latched byte belongs to the core, the next does not. -/
theorem test_src_hazard :
    (match access (.writeSrc 0 8 9) (busyWith 1 0 0 0 [5#8]) with | .fault r => r == .srcOwnedByCore | _ => false) = true ∧
    nextIs (access (.writeSrc 1 8 9) (busyWith 1 0 0 0 [5#8])) (fun t => t.src == [(0, 5#8), (1, 9#8)]) =
      true := by decide +kernel

/-- 20_memory.md R55. -/
theorem test_narrow_access_refused :
    (match access (.readReg 0x04 8) State.reset with | .refused r => r == .notInTheInterface | _ => false) = true := by
  decide +kernel

/-- 10_state.md R35: there is no SRC address 2^32. -/
theorem test_src_end :
    (match access (.readSrc 4294967296 8) State.reset with | .fault r => r == .noSuchSrcAddress | _ => false) = true := by
  decide +kernel

/-- 30_encoding.md R87: WAIT stays while BUSY = 1. -/
theorem test_wait_stays :
    nextIs (hostStep { busyWith 1 0 0 0 [] with program := [HostStep.wait] })
      (fun t => t.program == [HostStep.wait] && t.readings == [Reading.word 1]) = true := by decide +kernel

/-! ### Witnesses: the hypotheses of each statement are met -/

theorem witness_IllegalWord :
    ((0x00000000#32).toNat = 0 ∨ 7 < (0x00000000#32).toNat) ∧ ((0x00000008#32).toNat = 0 ∨ 7 < (0x00000008#32).toNat) ∧
    State.reset.ready = true ∧ (busyWith 0 0 0 0 []).busy = true ∧ (busyWith 0 0 0 0 []).pend.op = 0x00000000#32 ∧
    (busyWith 8 0 0 0 []).busy = true ∧ (busyWith 8 0 0 0 []).pend.op = 0x00000008#32 := by decide +kernel

theorem witness_StepRuns :
    (busyWith 1 0 0 0 []).mover = .core ∧ (busyWith 1 0 0 0 []).busy = true ∧
    decode (busyWith 1 0 0 0 []).pend.op = .command .crc32 := by decide +kernel

theorem witness_Issue :
    fatalState.fatal = true ∧ (busyWith 1 0 0 0 []).busy = true ∧ State.reset.fatal = false ∧
    State.reset.busy = false := by decide +kernel

theorem witness_Pack :
    (latched 3 0 0 4294639624 0).pend.n.toNat ≤ 4294639624 ∧ 4294639624 < (latched 3 0 0 4294639625 0).pend.n.toNat := by
  decide +kernel

theorem witness_Chunk :
    (latched 4 0 0 4294967283 0).pend.n.toNat ≤ 4294967283 ∧ 4294967283 < (latched 4 0 0 4294967284 0).pend.n.toNat := by
  decide +kernel

theorem witness_Assemble :
    ((latched 5 0 1 0 0).pend.w = 0 ∨ (latched 5 0 1 0 0).pend.h = 0) ∧
    (latched 5 1 1 4294967239 0).pend.w ≠ 0 ∧ (latched 5 1 1 4294967239 0).pend.h ≠ 0 ∧
    4294967238 < (latched 5 1 1 4294967239 0).pend.n.toNat ∧
    (latched 5 1 1 4294967238 0).pend.w ≠ 0 ∧ (latched 5 1 1 4294967238 0).pend.n.toNat ≤ 4294967238 := by
  decide +kernel

/-- One state for each clause, at the edge between success and overflow (V-F15, V-F16). -/
theorem witness_Filter :
    ((latched 6 2 0 0 0).pend.w = 0 ∨ (latched 6 2 0 0 0).pend.h = 0) ∧
    (latched 6 2 2 15 0).pend.n.toNat ≠ (latched 6 2 2 15 0).pend.w.toNat * (latched 6 2 2 15 0).pend.h.toNat * 4 ∧
    (3435973840#32).toNat = (1#32).toNat * (858993460#32).toNat * 4 ∧
    4294967295 < (858993460#32).toNat * (1 + 4 * (1#32).toNat) ∧
    (3435973836#32).toNat = (1#32).toNat * (858993459#32).toNat * 4 ∧
    (858993459#32).toNat * (1 + 4 * (1#32).toNat) ≤ 4294967295 := by decide +kernel

/-- One state for each clause, at the edge between success and overflow (V-E12, V-E13). -/
theorem witness_Encode :
    ((latched 7 0 5 7 0).pend.w = 0 ∨ (latched 7 0 5 7 0).pend.h = 0) ∧
    (latched 7 2 2 20 0).pend.n.toNat ≠ (latched 7 2 2 20 0).pend.w.toNat * (latched 7 2 2 20 0).pend.h.toNat * 4 ∧
    (3435711660#32).toNat = (1#32).toNat * (858927915#32).toNat * 4 ∧
    4294639572 < (858927915#32).toNat * (1 + 4 * (1#32).toNat) ∧
    (3435711656#32).toNat = (1#32).toNat * (858927914#32).toNat * 4 ∧
    (858927914#32).toNat * (1 + 4 * (1#32).toNat) ≤ 4294639572 := by decide +kernel

theorem witness_Mismatch : 4294967295 < (32768#32).toNat * (32768#32).toNat * 4 := by decide

theorem witness_Overflow :
    ¬ ((1#32).toNat = 0 ∨ (858993460#32).toNat = 0 ∨ Config.machine.maxDim < (1#32).toNat ∨
      Config.machine.maxDim < (858993460#32).toNat) ∧
    (3435973840#32).toNat = (1#32).toNat * (858993460#32).toNat * 4 := by decide +kernel

/-- The upper test of InvalidDimensions is live with a smaller MAX_DIM (60_exceptions.md R207). -/
theorem witness_MaxDim :
    outcomeOf .assemble { maxDim := 100, srcSize := 4294967296 } { op := 5, w := 101, h := 1, n := 0, t := 0 } [] =
      .err .invalidDimensions ∧
    outcomeOf .assemble { maxDim := 100, srcSize := 4294967296 } { op := 5, w := 100, h := 1, n := 0, t := 0 } [] ≠
      .err .invalidDimensions := by decide +kernel

theorem witness_Priority :
    ((0x107#32).toNat = 0 ∨ 7 < (0x107#32).toNat) ∧
    outcomeOf .filter Config.machine { op := 6, w := 2, h := 2, n := 15, t := 0 } [] = .err .bufferLengthMismatch ∧
    ((0#32).toNat = 0 ∨ (5#32).toNat = 0) := by decide +kernel

theorem witness_Failed :
    (latched 7 0 5 7 0).busy = true ∧
    outcomeOfWord Config.machine (latched 7 0 5 7 0).pend ((latched 7 0 5 7 0).srcBuf 7) = .err .invalidDimensions := by
  decide +kernel

/-- Two states that differ in RESULT, OUT and an SRC byte above the latched length. -/
theorem witness_HistoryFree :
    (latched 1 0 0 1 0).busy = true ∧
    ∀ a, a < (latched 1 0 0 1 0).pend.n.toNat →
      ({ latched 1 0 0 1 0 with src := [(0, 7#8)] } : State).srcByte a =
        ({ latched 1 0 0 1 0 with src := [(0, 7#8), (5, 1#8)], result := 9, out := [1#8] } : State).srcByte a := by
  refine ⟨by decide +kernel, fun a ha => ?_⟩
  obtain rfl : a = 0 := Nat.lt_one_iff.mp ha
  rfl

theorem witness_busy : (busyWith 1 0 0 0 []).busy = true := by decide +kernel

theorem witness_idle : State.reset.busy = false ∧ State.reset.fatal = false := by decide +kernel

theorem witness_EndOfCommand :
    (busyWith 1 0 0 0 []).busy = true ∧ nextIs (step (busyWith 1 0 0 0 [])) (fun t => !t.busy) = true ∧
    nextIs (step { busyWith 1 0 0 0 [] with program := [.access .reset], turns := [.host] }) (fun t => !t.busy) = true ∧
    fatalState.fatal = true ∧
    nextIs (step { fatalState with program := [.access .reset] }) (fun t => !t.fatal) = true := by decide +kernel

theorem witness_Fatal :
    fatalState.status = 0x306#32 ∧ (busyWith 1 0 0 0 []).status = 1#32 ∧
    nextIs (step { fatalState with program := [hostWR .cmd 1] }) (fun t => t.status == 0x306) = true := by
  decide +kernel

theorem witness_StatusChanges :
    nextIs (step { loaded 0 0 0 [] with program := [hostWR .cmd 1] }) (fun t => t.busy && t.status != 0) = true ∧
    nextIs (step (busyWith 1 0 0 0 [])) (fun t => t.done && t.status != 1) = true ∧
    (busyWith 1 0 0 0 []).done = false := by decide +kernel

/-- A state with something in SRC meets the invariant, and a step from it has a next state. -/
theorem witness_Invariant :
    (busyWith 3 0 0 0 [1#8, 2#8]).Inv ∧ nextIs (step (busyWith 3 0 0 0 [1#8, 2#8])) (fun _ => true) = true := by
  refine ⟨⟨by decide +kernel, by unfold State.statusLegal; decide +kernel, by unfold State.outLenRight; decide +kernel⟩, by decide +kernel⟩

theorem witness_CoreStep : nextIs (coreStep (busyWith 3 0 0 0 [1#8, 2#8])) (fun _ => true) = true := by
  decide +kernel

theorem witness_Reserved :
    0x20 % 4 = 0 ∧ 0x20 ≤ 0x20 ∧ ((16 : Nat) ≠ 32 ∨ 0x20 % 4 ≠ 0) ∧ ((32 : Nat) ≠ 32 ∨ 0x22 % 4 ≠ 0) ∧
    (7 : Nat) ≠ 8 ∧ (9 : Nat) ≠ 8 := by decide

theorem witness_AccessSideEffects :
    nextIs (access (.readReg 0x18 32) (shows [1#8])) (fun _ => true) = true ∧ (shows [1#8]).busy = false ∧
    nextIs (access (.readSrc 0 8) (busyWith 1 0 0 0 [5#8])) (fun t => t.readings == [Reading.byte 5]) = true ∧
    nextIs (access (.readOut 0 8) (shows [1#8])) (fun t => t.readings == [Reading.byte 1]) = true ∧
    nextIs (access (.writeSrc 4294967295 8 3) State.reset) (fun t => t.src == [(4294967295, 3#8)]) = true := by
  decide +kernel

/-- Below, at and above the latched length. -/
theorem witness_SrcHazard :
    4294967295 < 4294967296 ∧ (busyWith 1 0 0 0 [5#8, 6#8]).busy = true ∧
    1 < (busyWith 1 0 0 0 [5#8, 6#8]).pend.n.toNat ∧ (busyWith 1 0 0 0 [5#8, 6#8]).pend.n.toNat ≤ 2 ∧
    (busyWith 1 0 0 0 [5#8, 6#8]).ownedByCore 2 = false := by decide +kernel

/-- Two canonical memories that read alike. -/
theorem witness_EqualReads :
    Memory.wf [(3, 1#8), (7, 2#8)] ∧ Memory.wf (Memory.write [(3, 1#8)] 7 2#8) ∧
    ∀ a, Memory.read? [(3, 1#8), (7, 2#8)] a = Memory.read? (Memory.write [(3, 1#8)] 7 2#8) a := by
  refine ⟨by decide +kernel, by decide +kernel, fun a => rfl⟩

theorem witness_IdleReads :
    (shows [1#8, 2#8]).busy = false ∧ (shows [1#8, 2#8]).out[1]? = some 2#8 ∧ (shows [1#8, 2#8]).out.length ≤ 2 := by
  decide +kernel

theorem witness_ResultsLive :
    (shows [1#8]).busy = false ∧
    nextIs (step { shows [1#8] with program := [hostWR .width 3] }) (fun t => t.out == [1#8] && t.width == 3) = true := by
  decide +kernel

theorem witness_AdlerExtreme :
    ({ a := 65520, b := 65520 } : AdlerSums).a.toNat ≤ 65520 ∧ ({ a := 65520, b := 65520 } : AdlerSums).b.toNat ≤ 65520 ∧
    adlerByte { a := 65520, b := 65520 } 0xFF#8 = { a := 254, b := 253 } := by decide +kernel

theorem witness_Blocks :
    (List.replicate 65535 (0#8 : Byte)).length ≤ 65535 ∧ 65535 < (List.replicate 65536 (0#8 : Byte)).length :=
  ⟨le_of_eq List.length_replicate, by rw [List.length_replicate]; omega⟩

theorem witness_ChunkFraming :
    ([0x49#8, 0x44#8, 0x41#8, 0x54#8] : Bytes).length = 4 ∧ ([0x61#8] : Bytes).length ≤ 4294967295 := by decide

theorem witness_Image :
    (1#32) ≠ 0 ∧ ([0#8, 0#8, 0#8, 0#8] : Bytes).length = (1#32).toNat * (1#32).toNat * 4 ∧
    ([0#8, 0#8, 0#8, 0#8] : Bytes).length = 1 * 1 * 4 ∧ 5 < 1 * (1 + 4 * 1) + 1 ∧ 3 < 4 * 1 * 1 ∧
    ([0#8, 0#8, 0#8, 0#8] : Bytes).length = 4 * (1#32).toNat * (1#32).toNat ∧
    encodeLength (1#32).toNat (1#32).toNat ≤ 4294967295 := by decide +kernel

theorem witness_EncodeSucceeds :
    ([0#8, 0#8, 0#8, 0#8] : Bytes).length = (4#32).toNat ∧
    outcomeOf .encode Config.machine { op := 7, w := 1, h := 1, n := 4, t := 0 } [0#8, 0#8, 0#8, 0#8] =
      .ok 0 imageOnePixel := by decide +kernel

theorem witness_Streams :
    ([0x61#8] : Bytes).length = (1#32).toNat ∧
    outcomeOf .chunk Config.machine { op := 4, w := 0, h := 0, n := 1, t := 0x74455874 } [0x41#8] =
      .ok 0 [0x00#8, 0x00#8, 0x00#8, 0x01#8, 0x74#8, 0x45#8, 0x58#8, 0x74#8, 0x41#8, 0x4E#8, 0x9D#8, 0xAB#8, 0xE1#8] := by
  decide +kernel

theorem witness_Run :
    ({ loaded 0 0 0 [] with program := hostRUN .pack ++ [hostRD .result] } : State).ready = true ∧
    ({ loaded 0 0 0 [] with program := hostRUN .pack ++ [hostRD .result] } : State).turns = [] := by decide +kernel

theorem witness_Load :
    (State.reset.setProgram (hostLOAD [1#8, 2#8] ++ [.wait])).busy = false ∧
    (State.reset.setProgram (hostLOAD [1#8, 2#8] ++ [.wait])).turns = [] ∧ ([1#8, 2#8] : Bytes).length < 4294967296 := by
  decide +kernel

theorem witness_Fetch :
    ((shows [1#8, 2#8]).setProgram [.fetch]).busy = false ∧ ((shows [1#8, 2#8]).setProgram [.move]).turns = [] ∧
    (shows [1#8, 2#8]).outLen.toNat = (shows [1#8, 2#8]).out.length := by decide +kernel

theorem witness_Platform :
    (match Platform.step 0 [busyWith 1 0 0 0 [], fatalState] with | .next p => p.length == 2 | _ => false) = true ∧
    ([busyWith 1 0 0 0 [], fatalState] : Platform)[0]? = ([busyWith 1 0 0 0 [], State.reset] : Platform)[0]? := by
  decide +kernel

end Sys2Proof.Tests
end

section
/-! PROOFS. When two unit transitions do not disturb one another, and what a chain of units then emits
(00_scope.md R10, 10_state.md R32 to R34). -/

namespace Sys2Proof.Machine

/-! ### Combining transitions -/

/-- One transition after the other, their outputs in that order: the shape of `feed` and of every
unit's run (`feed_cons_eq`, `framerRun_eq`). -/
def andThen (f g : Units → UnitStep) (u : Units) : UnitStep :=
  ((g (f u).1).1, (f u).2 ++ (g (f u).1).2)

/-- A transition whose output is fed to the next unit: `pipe` without its input byte (`pipe_eq`). -/
def feedInto (f : Units → UnitStep) (g : Byte → Units → UnitStep) (u : Units) : UnitStep :=
  feed g (f u).2 (f u).1

theorem feed_cons_eq (f : Byte → Units → UnitStep) (x : Byte) (s : Bytes) :
    feed f (x :: s) = andThen (f x) (feed f s) := rfl

theorem feed_append_eq (f : Byte → Units → UnitStep) (s t : Bytes) :
    feed f (s ++ t) = andThen (feed f s) (feed f t) :=
  funext (feed_append f s t)

theorem andThen_assoc (f g k : Units → UnitStep) :
    andThen (andThen f g) k = andThen f (andThen g k) := by
  funext u
  simp only [andThen, List.append_assoc]

theorem pipe_eq (f g : Byte → Units → UnitStep) (x : Byte) : pipe f g x = feedInto (f x) g := rfl

theorem framerRun_eq (n : Word) (s : Bytes) :
    framerRun n s = andThen (framerStart n) (feed framerByte s) := rfl

theorem prefixerRun_eq (w h : Word) (px : Bytes) :
    prefixerRun w h px = andThen prefixerStart (feed (prefixerByte w h) px) := rfl

/-! ### Independent transitions -/

/-- Neither transition changes what the other emits, and their order makes no difference. -/
structure Independent (f g : Units → UnitStep) : Prop where
  state : ∀ u, (f (g u).1).1 = (g (f u).1).1
  left : ∀ u, (f (g u).1).2 = (f u).2
  right : ∀ u, (g (f u).1).2 = (g u).2

theorem Independent.symm {f g : Units → UnitStep} (h : Independent f g) : Independent g f :=
  ⟨fun u => (h.state u).symm, h.right, h.left⟩

theorem Independent.andThen_left {f₁ f₂ g : Units → UnitStep} (h₁ : Independent f₁ g)
    (h₂ : Independent f₂ g) : Independent (andThen f₁ f₂) g where
  state u := by simp only [andThen, h₁.state, h₂.state]
  left u := by simp only [andThen, h₁.state, h₁.left, h₂.left]
  right u := by simp only [andThen, h₂.right, h₁.right]

theorem Independent.feed_left {f : Byte → Units → UnitStep} {g : Units → UnitStep}
    (h : ∀ x, Independent (f x) g) (s : Bytes) : Independent (feed f s) g := by
  induction s with
  | nil => exact ⟨fun _ => rfl, fun _ => rfl, fun _ => rfl⟩
  | cons x s ih => exact (h x).andThen_left ih

theorem Independent.feed_right {f : Units → UnitStep} {g : Byte → Units → UnitStep}
    (h : ∀ x, Independent f (g x)) (s : Bytes) : Independent f (feed g s) :=
  (feed_left (fun x => (h x).symm) s).symm

theorem Independent.feedInto_right {f g : Units → UnitStep} {k : Byte → Units → UnitStep}
    (hg : Independent f g) (hk : ∀ x, Independent f (k x)) : Independent f (feedInto g k) where
  state u := by simp only [feedInto, hg.right, hg.state, (feed_right hk _).state]
  left u := by simp only [feedInto, (feed_right hk _).left, hg.left]
  right u := by simp only [feedInto, hg.right, ← hg.state, (feed_right hk _).right]

/-! ### Chains of independent units -/

/-- Feeding two outputs to the next unit as they come is feeding it both at the end. -/
theorem feedInto_andThen (f₁ f₂ : Units → UnitStep) (g : Byte → Units → UnitStep)
    (h : ∀ x, Independent f₂ (g x)) :
    feedInto (andThen f₁ f₂) g = andThen (feedInto f₁ g) (feedInto f₂ g) := by
  funext u
  have hg := Independent.feed_right h (f₁ u).2
  simp only [feedInto, andThen, feed_append, hg.left, hg.right, hg.state]

/-- A chain fed byte by byte gives what its units give one after the other, each over the whole
output of the one before. -/
theorem feed_pipe (f g : Byte → Units → UnitStep) (h : ∀ x y, Independent (f x) (g y)) (s : Bytes) :
    feed (pipe f g) s = feedInto (feed f s) g := by
  induction s with
  | nil => rfl
  | cons x s ih =>
    rw [feed_cons_eq, feed_cons_eq, ih, pipe_eq,
      feedInto_andThen _ _ g fun y => Independent.feed_left (fun x => h x y) s]

/-! ### The registers of each unit -/

/-- `v` with the checksum and position registers of the serialiser from `u` (10_state.md R32, R34). -/
def serialiserRegs (v u : Units) : Units := { v with crc := u.crc, pos := u.pos }

/-- `v` with the registers of the framer and its Adler unit from `u` (10_state.md R32, R33). -/
def framerRegs (v u : Units) : Units := { v with a := u.a, b := u.b, rem := u.rem, blk := u.blk }

/-- `v` with the registers of the prefixer from `u` (10_state.md R34). -/
def prefixerRegs (v u : Units) : Units := { v with row := u.row, col := u.col }

/-- The transition reads and writes no register but those that `own` takes from its second argument. -/
def WorksOn (own : Units → Units → Units) (f : Units → UnitStep) : Prop :=
  ∀ v u, f (own v u) = (own v (f u).1, (f u).2)

/-- Two sets of registers with none in common. -/
structure DisjointRegs (own own' : Units → Units → Units) : Prop where
  self : ∀ u, own u u = u
  self' : ∀ u, own' u u = u
  keep : ∀ u v, own (own' u v) u = own' u v
  keep' : ∀ u v, own' (own u v) u = own u v
  comm : ∀ u v v', own (own' u v) v' = own' (own u v') v

theorem framerRegs_disjoint_serialiserRegs : DisjointRegs framerRegs serialiserRegs :=
  ⟨fun _ => rfl, fun _ => rfl, fun _ _ => rfl, fun _ _ => rfl, fun _ _ _ => rfl⟩

theorem prefixerRegs_disjoint_serialiserRegs : DisjointRegs prefixerRegs serialiserRegs :=
  ⟨fun _ => rfl, fun _ => rfl, fun _ _ => rfl, fun _ _ => rfl, fun _ _ _ => rfl⟩

theorem prefixerRegs_disjoint_framerRegs : DisjointRegs prefixerRegs framerRegs :=
  ⟨fun _ => rfl, fun _ => rfl, fun _ _ => rfl, fun _ _ => rfl, fun _ _ _ => rfl⟩

/-- Transitions of units that have no register in common are independent. -/
theorem WorksOn.independent {own own' : Units → Units → Units} {f g : Units → UnitStep}
    (hf : WorksOn own f) (hg : WorksOn own' g) (hd : DisjointRegs own own') : Independent f g := by
  have hf_frame u : (f u).1 = own u (f u).1 := by simpa [hd.self] using congrArg Prod.fst (hf u u)
  have hg_frame u : (g u).1 = own' u (g u).1 := by simpa [hd.self'] using congrArg Prod.fst (hg u u)
  have hfg u : f (g u).1 = (own (own' u (g u).1) (f u).1, (f u).2) := by
    rw [← hf, hd.keep, ← hg_frame]
  have hgf u : g (f u).1 = (own' (own u (f u).1) (g u).1, (g u).2) := by
    rw [← hg, hd.keep', ← hf_frame]
  exact ⟨fun u => by rw [hfg, hgf, hd.comm], fun u => by rw [hfg], fun u => by rw [hgf]⟩

/-- A choice by the unit's own registers between two transitions that work on them. -/
theorem WorksOn.ite {own : Units → Units → Units} {c : Units → Prop} [DecidablePred c]
    {f g : Units → UnitStep} (hc : ∀ v u, c (own v u) ↔ c u) (hf : WorksOn own f)
    (hg : WorksOn own g) : WorksOn own fun u => if c u then f u else g u := by
  intro v u
  by_cases h : c u
  · simp only [hc, if_pos h, hf v u]
  · simp only [hc, if_neg h, hg v u]

theorem serialiserByte_worksOn (n : Word) (x : Byte) : WorksOn serialiserRegs (serialiserByte n x) :=
  .ite (fun _ _ => Iff.rfl) (fun _ _ => rfl) (fun _ _ => rfl)

theorem framerNewBlock_worksOn : WorksOn framerRegs framerNewBlock :=
  .ite (fun _ _ => Iff.rfl) (fun _ _ => rfl) (fun _ _ => rfl)

theorem framerEndBlock_worksOn : WorksOn framerRegs framerEndBlock :=
  .ite (fun _ _ => Iff.rfl) (fun _ _ => rfl) framerNewBlock_worksOn

theorem framerStart_worksOn (n : Word) : WorksOn framerRegs (framerStart n) := fun v u =>
  congrArg (fun r : UnitStep => (r.1, zlibHeader ++ r.2))
    (framerNewBlock_worksOn v { adlerStart u with rem := n })

theorem framerByte_worksOn (x : Byte) : WorksOn framerRegs (framerByte x) :=
  .ite (fun _ _ => Iff.rfl)
    (fun v u => congrArg (fun r : UnitStep => (r.1, x :: r.2))
      (framerEndBlock_worksOn v { adlerFeed x u with blk := (adlerFeed x u).blk - 1 }))
    (fun _ _ => rfl)

theorem prefixerStart_worksOn : WorksOn prefixerRegs prefixerStart := fun _ _ => rfl

theorem prefixerByte_worksOn (w h : Word) (x : Byte) : WorksOn prefixerRegs (prefixerByte w h x) :=
  .ite (fun _ _ => Iff.rfl) (.ite (fun _ _ => Iff.rfl) (fun _ _ => rfl) (fun _ _ => rfl)) (fun _ _ => rfl)

end Sys2Proof.Machine
end

section
/-! PROOFS. The packed stream and the scanline buffer as recursions, and their lengths
(41_stored_deflate.md R134, R138; 43_filter.md R174). -/

namespace Sys2Proof.Machine

theorem blocks_of_le (raw : Bytes) (h : raw.length ≤ 65535) :
    blocks raw = blockHeader true (BitVec.ofNat 16 raw.length) ++ raw := by
  have hcount : blockCount raw.length - 1 = 0 := by unfold blockCount blockMax; omega
  simp only [blocks, splitBlocks, hcount, splitInto, frameBlocks]

theorem blockCount_of_gt (n : Nat) (h : 65535 < n) : blockCount n = blockCount (n - 65535) + 1 := by
  unfold blockCount blockMax
  omega

/-- Splitting leaves at least one block, the empty one for no input. -/
theorem splitInto_ne_nil (more : Nat) (raw : Bytes) : splitInto more raw ≠ [] := by
  cases more with
  | zero => simp [splitInto]
  | succ more => unfold splitInto; split_ifs <;> simp

theorem splitBlocks_of_gt (raw : Bytes) (h : 65535 < raw.length) :
    splitBlocks raw = raw.take 65535 :: splitBlocks (raw.drop 65535) := by
  have hmore : blockCount raw.length - 1 = (blockCount (raw.drop 65535).length - 1) + 1 := by
    have := (blockCount_bounds (raw.drop 65535).length).1
    rw [blockCount_of_gt _ h, ← List.length_drop]
    omega
  rw [splitBlocks, hmore, splitInto, if_neg (by unfold blockMax; omega)]
  rfl

theorem frameBlocks_cons (p : Bytes) {ps : List Bytes} (h : ps ≠ []) :
    frameBlocks (p :: ps) = blockHeader false (BitVec.ofNat 16 p.length) ++ p ++ frameBlocks ps := by
  cases ps with
  | nil => exact absurd rfl h
  | cons q qs => rfl

theorem blocks_of_gt (raw : Bytes) (h : 65535 < raw.length) :
    blocks raw = blockHeader false 65535 ++ raw.take 65535 ++ blocks (raw.drop 65535) := by
  have hlen : (raw.take 65535).length = 65535 := by rw [List.length_take]; omega
  have hrest : splitBlocks (raw.drop 65535) ≠ [] := splitInto_ne_nil _ _
  rw [blocks, splitBlocks_of_gt raw h, frameBlocks_cons _ hrest, hlen]
  rfl

/-- Five header bytes for each block (41_stored_deflate.md R138). -/
theorem length_blocks (raw : Bytes) : (blocks raw).length = raw.length + 5 * blockCount raw.length := by
  by_cases h : raw.length ≤ 65535
  · have hcount : blockCount raw.length = 1 := by unfold blockCount blockMax; omega
    simp only [blocks_of_le raw h, hcount, List.length_append, length_blockHeader]
    omega
  · have hgt : 65535 < raw.length := by omega
    have ih := length_blocks (raw.drop 65535)
    simp only [blocks_of_gt raw hgt, blockCount_of_gt _ hgt, List.length_append, length_blockHeader,
      List.length_take, List.length_drop] at ih ⊢
    omega
  termination_by raw.length
  decreasing_by simp only [List.length_drop]; omega

theorem length_pack (raw : Bytes) : (pack raw).length = packLength raw.length := by
  simp only [pack, packLength, List.length_append, length_zlibHeader, length_blocks, length_be32]
  omega

theorem length_scanlines (rows rowBytes : Nat) (px : Bytes) (h : px.length = rows * rowBytes) :
    (scanlines rows rowBytes px).length = rows * (1 + rowBytes) := by
  induction rows generalizing px with
  | zero => simp [scanlines]
  | succ rows ih =>
    have hlen : px.length = rows * rowBytes + rowBytes := by rw [h, Nat.succ_mul]
    have hdrop : (px.drop rowBytes).length = rows * rowBytes := by rw [List.length_drop]; omega
    simp only [scanlines, List.length_append, List.length_cons, List.length_take, ih _ hdrop, Nat.succ_mul]
    omega

theorem length_filterImage (px : Bytes) (w h : Nat) (hlen : px.length = w * h * 4) :
    (filterImage px w h).length = scanlineLength w h :=
  length_scanlines h (4 * w) px (by rw [hlen]; ring)

end Sys2Proof.Machine
end

section
/-! PROOFS. What each unit emits over a whole input (41_stored_deflate.md R139, 42_chunk.md R159,
43_filter.md R176) and where the checksum units end (40_checksum.md R106, R113). -/

namespace Sys2Proof.Machine

/-! ### Checksum units -/

theorem foldl_crcFeed (s : Bytes) (u : Units) :
    s.foldl (fun u x => crcFeed x u) u = { u with crc := crcRun u.crc s } := by
  induction s generalizing u with
  | nil => rfl
  | cons x s ih => exact ih (crcFeed x u)

theorem crcStream_eq (s : Bytes) (u : Units) : crcStream s u = crc32 s := by
  rw [crcStream, foldl_crcFeed]
  rfl

/-- The sums in the Adler unit's registers. -/
def adlerSums (u : Units) : AdlerSums := { a := u.a, b := u.b }

/-- The registers once the Adler unit has been fed `s` (`foldl_adlerFeed`). -/
def adlerFed (s : Bytes) (u : Units) : Units :=
  { u with a := (adlerRun (adlerSums u) s).a, b := (adlerRun (adlerSums u) s).b }

theorem foldl_adlerFeed (s : Bytes) (u : Units) :
    s.foldl (fun u x => adlerFeed x u) u = adlerFed s u := by
  induction s generalizing u with
  | nil => rfl
  | cons x s ih => exact ih (adlerFeed x u)

theorem adlerStream_eq (s : Bytes) (u : Units) : adlerStream s u = adler32 s := by
  rw [adlerStream, foldl_adlerFeed]
  rfl

/-! ### Serialiser -/

/-- A counter that does not reach its width's end counts up. -/
theorem toNat_add_one_of_lt {n : Nat} (x : BitVec n) (h : x.toNat + 1 < 2 ^ n) :
    (x + 1).toNat = x.toNat + 1 := by
  have hone : (1 : BitVec n).toNat = 1 := Nat.mod_eq_of_lt (lt_of_le_of_lt (Nat.le_add_left 1 _) h)
  rw [BitVec.toNat_add, hone, Nat.mod_eq_of_lt h]

theorem serialiserByte_last (n : Word) (x : Byte) (u : Units) (h : u.pos + 1 = n) :
    (serialiserByte n x u).2 = x :: be32 (crcOut (crcByte u.crc x)) :=
  congrArg Prod.snd (if_pos h)

theorem serialiserByte_more (n : Word) (x : Byte) (u : Units) (h : u.pos + 1 ≠ n) :
    serialiserByte n x u = ({ u with crc := crcByte u.crc x, pos := u.pos + 1 }, [x]) :=
  if_neg h

/-- The serialiser over the rest of a payload: its bytes, then the CRC. -/
theorem feed_serialiserByte (n : Word) (s : Bytes) (u : Units) (hs : s ≠ [])
    (hpos : u.pos.toNat + s.length = n.toNat) :
    (feed (serialiserByte n) s u).2 = s ++ be32 (crcOut (crcRun u.crc s)) := by
  induction s generalizing u with
  | nil => exact absurd rfl hs
  | cons x s ih =>
    have hnext : (u.pos + 1).toNat + s.length = n.toNat := by
      have := n.isLt
      rw [List.length_cons] at hpos
      rw [toNat_add_one_of_lt u.pos (by omega)]
      omega
    cases s with
    | nil =>
      have hlast : u.pos + 1 = n := BitVec.eq_of_toNat_eq hnext
      simp [serialiserByte_last n x u hlast]
    | cons y s =>
      have hmore : u.pos + 1 ≠ n := fun h => by rw [h, List.length_cons] at hnext; omega
      rw [feed_cons, serialiserByte_more n x u hmore, ih _ (by simp) hnext]
      rfl

theorem serialiserStart_zero (t : Bytes) (u : Units) :
    (serialiserStart t 0 u).2 = be32 0 ++ t ++ be32 (crcOut (crcRun crcInit t)) := by
  rw [serialiserStart, foldl_crcFeed]
  rfl

theorem serialiserStart_of_ne_zero (t : Bytes) (n : Word) (u : Units) (h : n ≠ 0) :
    serialiserStart t n u = ({ u with crc := crcRun crcInit t, pos := 0 }, be32 n ++ t) := by
  rw [serialiserStart, foldl_crcFeed]
  exact if_neg h

theorem lengthWord_eq {p : Bytes} {n : Word} (h : p.length = n.toNat) : lengthWord p = n := by
  rw [lengthWord, h, BitVec.ofNat_toNat, BitVec.setWidth_eq]

/-- 42_chunk.md R159: the serialiser emits the chunk. -/
theorem serialiserRun_output (t p : Bytes) (n : Word) (u : Units) (h : p.length = n.toNat) :
    (serialiserRun t n p u).2 = chunk t p := by
  rw [chunk, lengthWord_eq h, crc32, crcRun_append, serialiserRun]
  by_cases hp : p = []
  · have hzero : n = 0 := BitVec.eq_of_toNat_eq (by rw [← h, hp]; rfl)
    simp only [hp, hzero, serialiserStart_zero, feed_nil, crcRun_nil, List.append_nil, List.append_assoc]
  · have hne : n ≠ 0 := fun h0 => hp (List.eq_nil_of_length_eq_zero (by rw [h, h0]; rfl))
    have hpos : (0 : Word).toNat + p.length = n.toNat := (Nat.zero_add _).trans h
    simp only [serialiserStart_of_ne_zero t n u hne]
    rw [feed_serialiserByte n p _ hp hpos]
    simp only [List.append_assoc]

/-! ### Framer -/

theorem framerNewBlock_empty (u : Units) (h : u.rem = 0) :
    (framerNewBlock u).2 = blockHeader true 0 ++ framerTrailer u := by
  simp [framerNewBlock, h, framerTrailer, adlerUnitOut]

theorem framerNewBlock_of_ne (u : Units) (len : Nat) (hlen : min u.rem.toNat blockMax = len)
    (hblk : BitVec.ofNat 16 len ≠ 0) :
    framerNewBlock u = ({ u with blk := BitVec.ofNat 16 len, rem := u.rem - BitVec.ofNat 32 len },
      blockHeader (decide (u.rem.toNat ≤ blockMax)) (BitVec.ofNat 16 len)) := by
  subst hlen
  exact if_neg hblk

theorem framerNewBlock_final (u : Units) (h0 : u.rem ≠ 0) (h : u.rem.toNat ≤ 65535) :
    framerNewBlock u = ({ u with blk := BitVec.ofNat 16 u.rem.toNat, rem := 0 },
      blockHeader true (BitVec.ofNat 16 u.rem.toNat)) := by
  have hblk : BitVec.ofNat 16 u.rem.toNat ≠ 0 := fun hz => by
    have hrem := congrArg BitVec.toNat hz
    rw [BitVec.toNat_ofNat, Nat.mod_eq_of_lt (by omega)] at hrem
    exact h0 (BitVec.eq_of_toNat_eq hrem)
  have hfinal : decide (u.rem.toNat ≤ blockMax) = true := decide_eq_true h
  have hrem : u.rem - BitVec.ofNat 32 u.rem.toNat = 0 := by simp
  rw [framerNewBlock_of_ne u _ (Nat.min_eq_left h) hblk, hfinal, hrem]

theorem framerNewBlock_more (u : Units) (h : 65535 < u.rem.toNat) :
    framerNewBlock u = ({ u with blk := 65535, rem := u.rem - 65535 }, blockHeader false 65535) := by
  have hfinal : decide (u.rem.toNat ≤ blockMax) = false := decide_eq_false h.not_ge
  rw [framerNewBlock_of_ne u 65535 (Nat.min_eq_right h.le) (by decide), hfinal]
  rfl

theorem framerByte_last (x : Byte) (u : Units) (h : u.blk - 1 = 0) :
    framerByte x u = ((framerEndBlock { adlerFeed x u with blk := 0 }).1,
      x :: (framerEndBlock { adlerFeed x u with blk := 0 }).2) := by
  rw [← h]
  exact if_pos h

theorem framerByte_more (x : Byte) (u : Units) (h : u.blk - 1 ≠ 0) :
    framerByte x u = ({ adlerFeed x u with blk := u.blk - 1 }, [x]) :=
  if_neg h

/-- The framer over one whole block: its bytes, then what ends the block. -/
theorem feed_framerByte_block (s : Bytes) (u : Units) (hs : s ≠ []) (hblk : s.length = u.blk.toNat) :
    feed framerByte s u = ((framerEndBlock { adlerFed s u with blk := 0 }).1,
      s ++ (framerEndBlock { adlerFed s u with blk := 0 }).2) := by
  induction s generalizing u with
  | nil => exact absurd rfl hs
  | cons x s ih =>
    have hnext : s.length = (u.blk - 1).toNat := by
      rw [List.length_cons] at hblk
      have hone : (1 : BitVec 16) ≤ u.blk := BitVec.le_def.mpr (hblk ▸ Nat.le_add_left 1 _)
      rw [BitVec.toNat_sub_of_le hone, ← hblk]
      rfl
    cases s with
    | nil =>
      have hlast : u.blk - 1 = 0 := BitVec.eq_of_toNat_eq hnext.symm
      rw [feed_cons, framerByte_last x u hlast, feed_nil, List.append_nil]
      rfl
    | cons y s =>
      have hmore : u.blk - 1 ≠ 0 := fun h0 => by rw [h0] at hnext; exact absurd hnext (Nat.succ_ne_zero _)
      rw [feed_cons, framerByte_more x u hmore, ih _ (by simp) hnext]
      rfl

/-- The registers between a full block `s` and the next one. -/
def framerAfterBlock (s : Bytes) (u : Units) : Units :=
  { adlerFed s u with blk := 0, rem := u.rem - 65535 }

theorem toNat_sub_full_block (n : Word) (h : 65535 < n.toNat) : (n - 65535).toNat = n.toNat - 65535 :=
  BitVec.toNat_sub_of_le (BitVec.le_def.mpr h.le)

/-- A full block with more to come: its header and bytes, then the next block opens. -/
theorem framer_full_block (s : Bytes) (u : Units) (hs : s.length = 65535) (h : 65535 < u.rem.toNat) :
    andThen framerNewBlock (feed framerByte s) u =
      ((framerNewBlock (framerAfterBlock s u)).1,
        blockHeader false 65535 ++ (s ++ (framerNewBlock (framerAfterBlock s u)).2)) := by
  have hpos : (u.rem - 65535).toNat ≠ 0 := by rw [toNat_sub_full_block u.rem h]; omega
  have hrest : u.rem - 65535 ≠ 0 := fun h0 => hpos (by rw [h0]; rfl)
  have hnew : framerEndBlock (framerAfterBlock s u) = framerNewBlock (framerAfterBlock s u) := if_neg hrest
  have hblock := feed_framerByte_block s { u with blk := 65535, rem := u.rem - 65535 }
    (List.ne_nil_of_length_pos (by omega)) hs
  rw [andThen, framerNewBlock_more u h, ← hnew]
  exact congrArg (fun r : UnitStep => (r.1, blockHeader false 65535 ++ r.2)) hblock

/-- The one block of a short input, then the trailer. -/
theorem framer_final_block (raw : Bytes) (u : Units) (h : raw.length = u.rem.toNat)
    (hle : raw.length ≤ 65535) :
    (andThen framerNewBlock (feed framerByte raw) u).2 =
      blocks raw ++ be32 (adlerOut (adlerRun (adlerSums u) raw)) := by
  rw [blocks_of_le raw hle]
  by_cases hraw : raw = []
  · have hrem : u.rem = 0 := BitVec.eq_of_toNat_eq (by rw [← h, hraw]; rfl)
    simp only [andThen, hraw, feed_nil, List.append_nil, framerNewBlock_empty u hrem]
    rfl
  · have hrem : u.rem ≠ 0 := fun h0 => hraw (List.eq_nil_of_length_eq_zero (by rw [h, h0]; rfl))
    have hblk : raw.length = (BitVec.ofNat 16 raw.length).toNat := by
      rw [BitVec.toNat_ofNat, Nat.mod_eq_of_lt (by omega)]
    rw [andThen, framerNewBlock_final u hrem (h ▸ hle), ← h, feed_framerByte_block raw _ hraw hblk,
      List.append_assoc]
    rfl

/-- From a new block to the end of the input: the blocks, then the trailer. -/
theorem framerNewBlock_feed (raw : Bytes) (u : Units) (h : raw.length = u.rem.toNat) :
    (andThen framerNewBlock (feed framerByte raw) u).2 =
      blocks raw ++ be32 (adlerOut (adlerRun (adlerSums u) raw)) := by
  by_cases hle : raw.length ≤ 65535
  · exact framer_final_block raw u h hle
  · have hgt : 65535 < raw.length := by omega
    have htake : (raw.take 65535).length = 65535 := by rw [List.length_take]; omega
    have hfeed : feed framerByte raw =
        andThen (feed framerByte (raw.take 65535)) (feed framerByte (raw.drop 65535)) := by
      rw [← feed_append_eq, List.take_append_drop]
    have hsums : adlerRun (adlerSums u) raw =
        adlerRun (adlerSums (framerAfterBlock (raw.take 65535) u)) (raw.drop 65535) := by
      conv_lhs => rw [← List.take_append_drop 65535 raw, adlerRun_append]
      rfl
    have ih := framerNewBlock_feed (raw.drop 65535) (framerAfterBlock (raw.take 65535) u)
      (by rw [List.length_drop, h]; exact (toNat_sub_full_block u.rem (h ▸ hgt)).symm)
    rw [hfeed, ← andThen_assoc, andThen, framer_full_block _ u htake (h ▸ hgt), blocks_of_gt raw hgt,
      hsums]
    simp only [List.append_assoc, ← ih]
    rfl
  termination_by raw.length
  decreasing_by simp only [List.length_drop]; omega

/-- 41_stored_deflate.md R139: the framer emits the packed stream. -/
theorem framerRun_output (raw : Bytes) (n : Word) (u : Units) (h : raw.length = n.toNat) :
    (framerRun n raw u).2 = pack raw := by
  have hblocks := framerNewBlock_feed raw { adlerStart u with rem := n } h
  rw [pack, List.append_assoc, adler32]
  exact (List.append_assoc ..).trans (congrArg (zlibHeader ++ ·) hblocks)

/-! ### Prefixer -/

theorem prefixerByte_more (w h : Word) (x : Byte) (u : Units) (hcol : (u.col + 1).toNat ≠ 4 * w.toNat) :
    prefixerByte w h x u = ({ u with col := u.col + 1 }, [x]) :=
  if_neg hcol

/-- What the prefixer emits after a row: the next row's filter byte, where there is a next row. -/
def rowEnd (h row : Word) : Bytes := if row.toNat < h.toNat then [filterByte] else []

theorem prefixerByte_last (w h : Word) (x : Byte) (u : Units) (hcol : (u.col + 1).toNat = 4 * w.toNat) :
    prefixerByte w h x u = ({ u with row := u.row + 1, col := 0 }, x :: rowEnd h (u.row + 1)) := by
  by_cases hrow : (u.row + 1).toNat < h.toNat
  · rw [rowEnd, if_pos hrow]
    exact (if_pos hcol).trans (if_pos hrow)
  · rw [rowEnd, if_neg hrow]
    exact (if_pos hcol).trans (if_neg hrow)

/-- The prefixer over the rest of a row: its bytes, then the row's end. -/
theorem feed_prefixerByte_row (w h : Word) (s : Bytes) (u : Units) (hs : s ≠ [])
    (hcol : u.col.toNat + s.length = 4 * w.toNat) :
    feed (prefixerByte w h) s u = ({ u with row := u.row + 1, col := 0 }, s ++ rowEnd h (u.row + 1)) := by
  induction s generalizing u with
  | nil => exact absurd rfl hs
  | cons x s ih =>
    have hnext : (u.col + 1).toNat + s.length = 4 * w.toNat := by
      have := w.isLt
      rw [List.length_cons] at hcol
      rw [toNat_add_one_of_lt u.col (by omega)]
      omega
    cases s with
    | nil =>
      rw [feed_cons, prefixerByte_last w h x u hnext, feed_nil, List.append_nil]
      rfl
    | cons y s =>
      have hmore : (u.col + 1).toNat ≠ 4 * w.toNat := by rw [List.length_cons] at hnext; omega
      rw [feed_cons, prefixerByte_more w h x u hmore, ih _ (by simp) hnext]
      rfl

theorem toNat_row_succ {h row : Word} {k : Nat} (hrow : row.toNat + (k + 1) = h.toNat) :
    (row + 1).toNat = row.toNat + 1 :=
  toNat_add_one_of_lt row (by have := h.isLt; omega)

/-- From the first byte of a row to the end of the image; the row's filter byte is out already. -/
theorem feed_prefixerByte_rows (w h : Word) (hw : w ≠ 0) (rows : Nat) (px : Bytes) (u : Units)
    (hcol : u.col = 0) (hrow : u.row.toNat + (rows + 1) = h.toNat)
    (hlen : px.length = (rows + 1) * (4 * w.toNat)) :
    filterByte :: (feed (prefixerByte w h) px u).2 = scanlines (rows + 1) (4 * w.toNat) px := by
  have hpos : 0 < w.toNat := Nat.pos_of_ne_zero fun h0 => hw (BitVec.eq_of_toNat_eq h0)
  induction rows generalizing px u with
  | zero =>
    have hnext := toNat_row_succ hrow
    have hpx : px.length = 4 * w.toNat := by rw [hlen]; ring
    have hrowLen : u.col.toNat + px.length = 4 * w.toNat := by rw [hcol, hpx]; exact Nat.zero_add _
    have hend : rowEnd h (u.row + 1) = [] := if_neg (by omega)
    rw [feed_prefixerByte_row w h px u (List.ne_nil_of_length_pos (by omega)) hrowLen, hend,
      scanlines, scanlines, List.take_of_length_le hpx.le]
    rfl
  | succ rows ih =>
    have hnext := toNat_row_succ hrow
    have hpx : px.length = (rows + 1) * (4 * w.toNat) + 4 * w.toNat := by rw [hlen]; ring
    have htake : (px.take (4 * w.toNat)).length = 4 * w.toNat := by rw [List.length_take]; omega
    have hrowLen : u.col.toNat + (px.take (4 * w.toNat)).length = 4 * w.toNat := by
      rw [hcol, htake]
      exact Nat.zero_add _
    have hend : rowEnd h (u.row + 1) = [filterByte] := if_pos (by omega)
    have ih := ih (px.drop (4 * w.toNat)) { u with row := u.row + 1, col := 0 } rfl
      (by simp only [hnext]; omega) (by rw [List.length_drop]; omega)
    have hfeed := feed_append (prefixerByte w h) (px.take (4 * w.toNat)) (px.drop (4 * w.toNat)) u
    rw [List.take_append_drop,
      feed_prefixerByte_row w h _ u (List.ne_nil_of_length_pos (by omega)) hrowLen, hend] at hfeed
    rw [hfeed, scanlines, ← ih]
    simp only [List.append_assoc, List.cons_append, List.nil_append]

/-- 43_filter.md R176: the prefixer emits the scanline buffer. -/
theorem prefixerRun_output (w h : Word) (px : Bytes) (u : Units) (hw : w ≠ 0) (hh : h ≠ 0)
    (hlen : px.length = 4 * w.toNat * h.toNat) :
    (prefixerRun w h px u).2 = filterImage px w.toNat h.toNat := by
  obtain ⟨rows, hrows⟩ := Nat.exists_eq_succ_of_ne_zero fun h0 => hh (BitVec.eq_of_toNat_eq h0)
  rw [filterImage, hrows]
  exact feed_prefixerByte_rows w h hw rows px { u with row := 0, col := 0 } rfl
    (by rw [hrows]; exact Nat.zero_add _) (by rw [hlen, hrows, Nat.mul_comm])

end Sys2Proof.Machine
end

section
/-! PROOFS. Each command as one pass of the units (00_scope.md R10, 70_reset_and_hazards.md R240). -/

namespace Sys2Proof.Machine

/-! ### Independence of the units of a chain -/

theorem framerByte_independent_serialiserByte (n : Word) (x y : Byte) :
    Independent (framerByte x) (serialiserByte n y) :=
  (framerByte_worksOn x).independent (serialiserByte_worksOn n y) framerRegs_disjoint_serialiserRegs

theorem framerRun_independent_serialiserByte (m n : Word) (s : Bytes) (y : Byte) :
    Independent (framerRun m s) (serialiserByte n y) :=
  ((framerStart_worksOn m).independent (serialiserByte_worksOn n y)
    framerRegs_disjoint_serialiserRegs).andThen_left
    (.feed_left (fun x => framerByte_independent_serialiserByte n x y) s)

theorem prefixerByte_independent (w h : Word) (x : Byte) {own : Units → Units → Units}
    {g : Units → UnitStep} (hg : WorksOn own g) (hd : DisjointRegs prefixerRegs own) :
    Independent (prefixerByte w h x) g :=
  (prefixerByte_worksOn w h x).independent hg hd

theorem prefixerRun_independent (w h : Word) (px : Bytes) {own : Units → Units → Units}
    {g : Units → UnitStep} (hg : WorksOn own g) (hd : DisjointRegs prefixerRegs own) :
    Independent (prefixerRun w h px) g :=
  (prefixerStart_worksOn.independent hg hd).andThen_left
    (.feed_left (fun x => prefixerByte_independent w h x hg hd) px)

/-- The prefixer disturbs neither the framer nor the serialiser behind it. -/
theorem prefixerByte_independent_pipe (w h n : Word) (x y : Byte) :
    Independent (prefixerByte w h x) (pipe framerByte (serialiserByte n) y) :=
  .feedInto_right (prefixerByte_independent w h x (framerByte_worksOn y) prefixerRegs_disjoint_framerRegs)
    fun z => prefixerByte_independent w h x (serialiserByte_worksOn n z) prefixerRegs_disjoint_serialiserRegs

theorem prefixerRun_independent_framerSerialiser (w h n : Word) (px raw : Bytes) :
    Independent (prefixerRun w h px) (feedInto (feed framerByte raw) (serialiserByte n)) :=
  .feedInto_right
    (.feed_right (fun y => prefixerRun_independent w h px (framerByte_worksOn y)
      prefixerRegs_disjoint_framerRegs) raw)
    fun z => prefixerRun_independent w h px (serialiserByte_worksOn n z) prefixerRegs_disjoint_serialiserRegs

/-! ### The image -/

theorem imageEnd_output (u : Units) : (imageEnd u).2 = chunk tagIEND [] :=
  serialiserRun_output tagIEND [] 0 u rfl

/-- The start of the image, and from there the whole IDAT chunk: what ASSEMBLE and ENCODE share. -/
theorem imageStart_idat (w h n : Word) (id : Bytes) (u : Units) (hn : id.length = n.toNat) :
    (imageStart w h n u).2 ++ (feed (serialiserByte n) id (imageStart w h n u).1).2 =
      signature ++ chunk tagIHDR (ihdrPayload w h) ++ chunk tagIDAT id := by
  have hihdr := serialiserRun_output tagIHDR (ihdrPayload w h) 13 u rfl
  have hidat := serialiserRun_output tagIDAT id n (serialiserRun tagIHDR 13 (ihdrPayload w h) u).1 hn
  rw [← hihdr, ← hidat]
  exact List.append_assoc ..

theorem assembleStream_output (w h n : Word) (id : Bytes) (u : Units) (hn : id.length = n.toNat) :
    (assembleStream w h n id u).2 = assemble (ihdrPayload w h) id := by
  rw [assemble, ← imageStart_idat w h n id u hn]
  exact congrArg (_ ++ ·) (imageEnd_output _)

/-- Framer and serialiser in a row: the serialiser sees the whole packed stream. -/
theorem framerSerialiser_output (n m : Word) (raw : Bytes) (v : Units) (hraw : raw.length = m.toNat) :
    (feedInto (framerRun m raw) (serialiserByte n) v).2 = (feed (serialiserByte n) (pack raw) v).2 := by
  rw [feedInto, framerRun_output raw m v hraw]
  exact (Independent.feed_right (framerRun_independent_serialiserByte m n raw) _).right v

/-- The prefixer before the two: they see the whole scanline buffer. -/
theorem prefixerFramerSerialiser_output (w h n : Word) (px : Bytes) (v : Units) (hw : w ≠ 0) (hh : h ≠ 0)
    (hlen : px.length = 4 * w.toNat * h.toNat) :
    (feedInto (prefixerRun w h px) (pipe framerByte (serialiserByte n)) v).2 =
      (feedInto (feed framerByte (filterImage px w.toNat h.toNat)) (serialiserByte n) v).2 := by
  rw [feedInto, prefixerRun_output w h px v hw hh hlen,
    feed_pipe _ _ (framerByte_independent_serialiserByte n)]
  exact (prefixerRun_independent_framerSerialiser w h n px _).right v

/-- The IDAT payload of ENCODE as the three units in a row emit it: the framer's start, the first
filter byte, then the pixels. -/
def encodePayload (w h m n : Word) (px : Bytes) : Units → UnitStep :=
  andThen (feedInto (framerStart m) (serialiserByte n))
    (andThen (feedInto prefixerStart (pipe framerByte (serialiserByte n)))
      (feed (pipe (prefixerByte w h) (pipe framerByte (serialiserByte n))) px))

theorem encodeStream_eq (w h : Word) (px : Bytes) (u : Units) :
    (encodeStream w h px u).2 =
      let L := scanlineLength w.toNat h.toNat
      let n := BitVec.ofNat 32 (packLength L)
      (andThen (imageStart w h n) (andThen (encodePayload w h (BitVec.ofNat 32 L) n px) imageEnd) u).2 := by
  simp only [encodePayload, andThen, feedInto, encodeStream, List.append_assoc]

theorem encodePayload_output (w h m n : Word) (px : Bytes) (v : Units) (hw : w ≠ 0) (hh : h ≠ 0)
    (hlen : px.length = 4 * w.toNat * h.toNat)
    (hm : (filterImage px w.toNat h.toNat).length = m.toNat) :
    (encodePayload w h m n px v).2 =
      (feed (serialiserByte n) (pack (filterImage px w.toNat h.toNat)) v).2 := by
  have hpixels : andThen (feedInto prefixerStart (pipe framerByte (serialiserByte n)))
      (feed (pipe (prefixerByte w h) (pipe framerByte (serialiserByte n))) px) =
      feedInto (prefixerRun w h px) (pipe framerByte (serialiserByte n)) := by
    rw [feed_pipe _ _ (prefixerByte_independent_pipe w h n), prefixerRun_eq, feedInto_andThen _ _ _ fun y =>
      .feed_left (fun x => prefixerByte_independent_pipe w h n x y) px]
  rw [← framerSerialiser_output n m _ v hm, framerRun_eq, feedInto_andThen _ _ _ fun y =>
    .feed_left (fun x => framerByte_independent_serialiserByte n x y) _, encodePayload, hpixels]
  exact congrArg (_ ++ ·) (prefixerFramerSerialiser_output w h n px _ hw hh hlen)

theorem encodeStream_output (w h : Word) (px : Bytes) (u : Units) (hw : w ≠ 0) (hh : h ≠ 0)
    (hlen : px.length = w.toNat * h.toNat * 4) (hfit : encodeLength w.toNat h.toNat ≤ 4294967295) :
    (encodeStream w h px u).2 = encodeImage px w h := by
  have hraw := length_filterImage px w.toNat h.toNat hlen
  have hpack := length_pack (filterImage px w.toNat h.toNat)
  simp only [encodeLength] at hfit
  have hm : (filterImage px w.toNat h.toNat).length =
      (BitVec.ofNat 32 (scanlineLength w.toNat h.toNat)).toNat := by
    rw [hraw, BitVec.toNat_ofNat, Nat.mod_eq_of_lt (by omega)]
  have hn : (pack (filterImage px w.toNat h.toNat)).length =
      (BitVec.ofNat 32 (packLength (scanlineLength w.toNat h.toNat))).toNat := by
    rw [hpack, hraw, BitVec.toNat_ofNat, Nat.mod_eq_of_lt (by unfold packLength; omega)]
  rw [encodeStream_eq]
  simp only [andThen, imageEnd_output,
    encodePayload_output w h _ _ px _ hw hh (by rw [hlen]; ring) hm]
  rw [← List.append_assoc, imageStart_idat w h _ _ u hn]
  rfl

/-! ### What a successful command says -/

theorem packOutcome_ok {c : Config} {p : Pend} {input bs : Bytes} {r : Word}
    (h : packOutcome c p input = .ok r bs) : r = 0 ∧ bs = pack input := by
  unfold packOutcome at h
  split_ifs at h
  cases h
  exact ⟨rfl, rfl⟩

theorem chunkOutcome_ok {c : Config} {p : Pend} {input bs : Bytes} {r : Word}
    (h : chunkOutcome c p input = .ok r bs) : r = 0 ∧ bs = chunk p.tag input := by
  unfold chunkOutcome at h
  split_ifs at h
  cases h
  exact ⟨rfl, rfl⟩

theorem assembleOutcome_ok {c : Config} {p : Pend} {input bs : Bytes} {r : Word}
    (h : assembleOutcome c p input = .ok r bs) :
    r = 0 ∧ bs = assemble (ihdrPayload p.w p.h) input := by
  unfold assembleOutcome at h
  split_ifs at h
  cases h
  exact ⟨rfl, rfl⟩

/-- Dimensions that pass the check of 60_exceptions.md R207 are not 0. -/
theorem ne_zero_of_not_invalidDims {c : Config} {p : Pend} (h : ¬ invalidDims c p.width p.height = true) :
    p.w ≠ 0 ∧ p.h ≠ 0 := by
  rw [invalidDims_eq_true, Pend.width_eq, Pend.height_eq] at h
  exact ⟨fun hw => h (.inl (by rw [hw]; rfl)), fun hh => h (.inr (.inl (by rw [hh]; rfl)))⟩

theorem eq_of_not_lengthMismatch {p : Pend} (h : ¬ lengthMismatch p.width p.height p.length = true) :
    p.n.toNat = p.w.toNat * p.h.toNat * 4 :=
  (lengthMismatch_eq_false _ _ _).mp (Bool.eq_false_iff.mpr h)

theorem filterOutcome_ok {c : Config} {p : Pend} {input bs : Bytes} {r : Word}
    (h : filterOutcome c p input = .ok r bs) :
    p.w ≠ 0 ∧ p.h ≠ 0 ∧ p.n.toNat = p.w.toNat * p.h.toNat * 4 ∧
      r = 0 ∧ bs = filterImage input p.w.toNat p.h.toNat := by
  unfold filterOutcome at h
  split_ifs at h with hdims hlen
  cases h
  obtain ⟨hw, hh⟩ := ne_zero_of_not_invalidDims hdims
  exact ⟨hw, hh, eq_of_not_lengthMismatch hlen, rfl, rfl⟩

theorem encodeOutcome_ok {c : Config} {p : Pend} {input bs : Bytes} {r : Word}
    (h : encodeOutcome c p input = .ok r bs) :
    p.w ≠ 0 ∧ p.h ≠ 0 ∧ p.n.toNat = p.w.toNat * p.h.toNat * 4 ∧
      encodeLength p.w.toNat p.h.toNat ≤ 4294967295 ∧ r = 0 ∧ bs = encodeImage input p.w p.h := by
  unfold encodeOutcome at h
  split_ifs at h with hdims hlen hfit
  cases h
  obtain ⟨hw, hh⟩ := ne_zero_of_not_invalidDims hdims
  have hfit := (tooLong_eq_false _).mp (Bool.eq_false_iff.mpr hfit)
  exact ⟨hw, hh, eq_of_not_lengthMismatch hlen, hfit, rfl, rfl⟩

/-- Settles O55: each unit over its whole input emits its function's value, and units in a chain do
not disturb one another, having no register in common. -/
theorem singlePassEqualsCommand : Obligations.SinglePassEqualsCommand := by
  intro i c p input u r bs hlen hok
  cases i with
  | crc32 =>
    cases hok
    exact congrArg (·, []) (crcStream_eq input u)
  | adler32 =>
    cases hok
    exact congrArg (·, []) (adlerStream_eq input u)
  | pack =>
    obtain ⟨rfl, rfl⟩ := packOutcome_ok (c := c) hok
    exact congrArg (0, ·) (framerRun_output input p.n u hlen)
  | chunk =>
    obtain ⟨rfl, rfl⟩ := chunkOutcome_ok (c := c) hok
    exact congrArg (0, ·) (serialiserRun_output p.tag input p.n u hlen)
  | assemble =>
    obtain ⟨rfl, rfl⟩ := assembleOutcome_ok hok
    exact congrArg (0, ·) (assembleStream_output p.w p.h p.n input u hlen)
  | filter =>
    obtain ⟨hw, hh, hn, rfl, rfl⟩ := filterOutcome_ok hok
    exact congrArg (0, ·) (prefixerRun_output p.w p.h input u hw hh (by rw [hlen, hn]; ring))
  | encode =>
    obtain ⟨hw, hh, hn, hfit, rfl, rfl⟩ := encodeOutcome_ok hok
    exact congrArg (0, ·) (encodeStream_output p.w p.h input u hw hh (hlen.trans hn) hfit)

end Sys2Proof.Machine
end

section
/-! PROOFS. What a completion leaves in STATUS, in OUT and in the rest of the state, and from it the
invariant of Safety (10_state.md R22, R28, R36; 60_exceptions.md R202). -/

namespace Sys2Proof.Machine

/-! ### The length of every output (60_exceptions.md R211) -/

theorem Pend.length_tag (p : Pend) : p.tag.length = 4 := by
  rw [Pend.tag_eq, length_be32]

theorem length_chunk {t : Bytes} (p : Bytes) (ht : t.length = 4) : (chunk t p).length = chunkLength p.length := by
  simp only [chunk, chunkLength, List.length_append, length_be32, ht]
  omega

theorem length_assemble {ih : Bytes} (id : Bytes) (hi : ih.length = 13) :
    (assemble ih id).length = assembleLength id.length := by
  simp only [assemble, assembleLength, List.length_append, length_signature, length_chunk _ length_tagIHDR,
    length_chunk _ length_tagIDAT, length_chunk _ length_tagIEND, chunkLength, hi, List.length_nil]
  omega

theorem length_encodeImage (px : Bytes) (w h : Word) (hlen : px.length = w.toNat * h.toNat * 4) :
    (encodeImage px w h).length = encodeLength w.toNat h.toNat := by
  simp only [encodeImage, length_assemble _ (length_ihdrPayload w h), length_pack,
    length_filterImage px w.toNat h.toNat hlen, assembleLength, packLength, encodeLength]
  omega

theorem le_outMax_of_not_tooLong {n : Nat} (h : ¬ tooLong n = true) : n ≤ Config.outMax :=
  (tooLong_eq_false n).mp (Bool.eq_false_iff.mpr h)

/-- A command's output fits OUT, so that OUT_LEN can hold its length: the overflow check is made on the
very length the output then has. -/
theorem outcomeOf_ok_fits {i : Instr} {c : Config} {p : Pend} {input bs : Bytes} {r : Word}
    (hlen : input.length = p.length) (h : outcomeOf i c p input = .ok r bs) :
    bs.length ≤ Config.outMax := by
  cases i with
  | crc32 => cases h; exact Nat.zero_le _
  | adler32 => cases h; exact Nat.zero_le _
  | pack =>
    simp only [outcomeOf, packOutcome] at h
    split_ifs at h with hfit
    cases h
    rw [length_pack, hlen]
    exact le_outMax_of_not_tooLong hfit
  | chunk =>
    simp only [outcomeOf, chunkOutcome] at h
    split_ifs at h with hfit
    cases h
    rw [length_chunk input p.length_tag, hlen]
    exact le_outMax_of_not_tooLong hfit
  | assemble =>
    simp only [outcomeOf, assembleOutcome] at h
    split_ifs at h with _ hfit
    cases h
    rw [length_assemble input (length_ihdrPayload p.w p.h), hlen]
    exact le_outMax_of_not_tooLong hfit
  | filter =>
    simp only [outcomeOf, filterOutcome] at h
    split_ifs at h with _ hmis hfit
    cases h
    rw [length_filterImage input p.width p.height (hlen.trans (eq_of_not_lengthMismatch hmis))]
    exact le_outMax_of_not_tooLong hfit
  | encode =>
    obtain ⟨_, _, hn, hfit, _, rfl⟩ := encodeOutcome_ok h
    rw [length_encodeImage input p.w p.h (hlen.trans hn)]
    exact hfit

theorem outcomeOfWord_ok_fits {c : Config} {p : Pend} {input bs : Bytes} {r : Word}
    (hlen : input.length = p.length) (h : outcomeOfWord c p input = .ok r bs) :
    bs.length ≤ Config.outMax := by
  unfold outcomeOfWord at h
  split at h
  · exact outcomeOf_ok_fits hlen h
  · cases h

theorem toNat_lengthWord_of_fits {bs : Bytes} (h : bs.length ≤ Config.outMax) :
    (lengthWord bs).toNat = bs.length :=
  toNat_lengthWord bs (Nat.lt_succ_of_le h)

/-! ### The values STATUS takes (60_exceptions.md R201, R202) -/

theorem legalStatus_cases {w : Word} (hw : legalStatus w = true) :
    w = 0x000#32 ∨ w = 0x001#32 ∨ w = 0x002#32 ∨ w = 0x102#32 ∨ w = 0x202#32 ∨ w = 0x402#32 ∨
      w = 0x502#32 ∨ w = 0x306#32 := by
  simpa [legalStatus] using hw

/-- The one legal value with BUSY = 1: nothing of the last command is left in STATUS. -/
theorem eq_one_of_legalStatus_of_busy {w : Word} (hw : legalStatus w = true) (hb : statusBusy w = true) :
    w = 1#32 := by
  revert hb
  rcases legalStatus_cases hw with rfl | rfl | rfl | rfl | rfl | rfl | rfl | rfl <;> decide

/-- Issue on a core that is not fatal leaves BUSY alone set. -/
theorem statusIssued_of_legalStatus {w : Word} (hw : legalStatus w = true) (hf : statusFatal w = false) :
    statusIssued w = 1#32 := by
  revert hf
  rcases legalStatus_cases hw with rfl | rfl | rfl | rfl | rfl | rfl | rfl | rfl <;> decide

/-! ### Completion -/

/-! What no completion writes, whatever its outcome (60_exceptions.md R202). -/

@[simp] theorem State.complete_width (s : State) (o : CmdOutcome) : (s.complete o).width = s.width := by
  cases o <;> rfl
@[simp] theorem State.complete_height (s : State) (o : CmdOutcome) : (s.complete o).height = s.height := by
  cases o <;> rfl
@[simp] theorem State.complete_srcLen (s : State) (o : CmdOutcome) : (s.complete o).srcLen = s.srcLen := by
  cases o <;> rfl
@[simp] theorem State.complete_typeTag (s : State) (o : CmdOutcome) : (s.complete o).typeTag = s.typeTag := by
  cases o <;> rfl
@[simp] theorem State.complete_src (s : State) (o : CmdOutcome) : (s.complete o).src = s.src := by
  cases o <;> rfl
@[simp] theorem State.complete_resets (s : State) (o : CmdOutcome) : (s.complete o).resets = s.resets := by
  cases o <;> rfl

theorem State.complete_statusLegal {s : State} (o : CmdOutcome) (hs : s.statusLegal) (hb : s.busy = true) :
    (s.complete o).statusLegal := by
  have hone : s.status = 1#32 := eq_one_of_legalStatus_of_busy hs hb
  cases o with
  | ok r bs =>
    rw [State.statusLegal, State.complete_ok, State.succeed_status, hone]
    decide
  | err e =>
    rw [State.statusLegal, State.complete_err, State.raise_status, hone]
    cases e <;> decide

theorem State.complete_outLenRight (s : State) {o : CmdOutcome}
    (h : ∀ r bs, o = .ok r bs → bs.length ≤ Config.outMax) : (s.complete o).outLenRight := by
  cases o with
  | ok r bs => exact toNat_lengthWord_of_fits (h r bs rfl)
  | err e => rfl

/-! ### The invariant, operation by operation -/

/-- The invariant speaks of SRC, STATUS, OUT_LEN and OUT only. -/
theorem State.Inv.of_eq {s t : State} (hs : s.Inv) (hstatus : t.status = s.status) (hlen : t.outLen = s.outLen)
    (hout : t.out = s.out) (hsrc : Memory.wf t.src) : t.Inv where
  srcCanonical := hsrc
  statusLegal := by rw [State.statusLegal, hstatus]; exact hs.statusLegal
  outLenRight := by rw [State.outLenRight, hlen, hout]; exact hs.outLenRight

theorem State.Inv.passTurn {s : State} (hs : s.Inv) : s.passTurn.Inv := hs.of_eq rfl rfl rfl hs.srcCanonical

theorem State.Inv.setProgram {s : State} (hs : s.Inv) (p : List HostStep) : (s.setProgram p).Inv :=
  hs.of_eq rfl rfl rfl hs.srcCanonical

theorem State.Inv.issued {s : State} (hs : s.Inv) (hf : s.fatal = false) (v : Word) : (s.issued v).Inv where
  srcCanonical := hs.srcCanonical
  statusLegal := by
    rw [State.statusLegal, State.issued_status, statusIssued_of_legalStatus hs.statusLegal hf]
    decide
  outLenRight := hs.outLenRight

theorem State.Inv.complete {s : State} (hs : s.Inv) (hb : s.busy = true) :
    (s.complete (outcomeOfWord Config.machine s.pend (s.srcBuf s.pend.length))).Inv where
  srcCanonical := by rw [State.complete_src]; exact hs.srcCanonical
  statusLegal := State.complete_statusLegal _ hs.statusLegal hb
  outLenRight := s.complete_outLenRight fun _ _ => outcomeOfWord_ok_fits (s.length_srcBuf _)

theorem State.Inv.reset : State.reset.Inv where
  srcCanonical := Memory.wf_nil
  statusLegal := by rw [State.statusLegal, State.reset_status]; decide
  outLenRight := rfl

theorem State.Inv.applyReset (s : State) : s.applyReset.Inv :=
  State.Inv.reset.of_eq rfl rfl rfl Memory.wf_nil

theorem State.Inv.of_hostStep {s t : State} (hs : s.Inv) (h : hostStep s = .next t) : t.Inv := by
  rcases hostStep_core h with ⟨hstatus, -, -, -, hlen, hout, -, -, -, hsrc⟩ | ⟨hf, -, v, rest, -, rfl⟩ |
    ⟨rest, -, rfl⟩
  · refine hs.of_eq hstatus hlen hout ?_
    rcases hsrc with hsrc | ⟨x, v, hx, -, hsrc⟩
    · exact hsrc ▸ hs.srcCanonical
    · exact hsrc ▸ Memory.wf_write s.src x v hs.srcCanonical hx
  · exact (hs.setProgram rest).issued hf v
  · exact State.Inv.applyReset _

/-! ### The obligations on the invariant -/

/-- Settles O26: SRC is empty, STATUS and OUT_LEN are 0 and OUT is empty. -/
theorem resetMeetsInvariant : Obligations.ResetMeetsInvariant := State.Inv.reset

/-- Settles O27, by what a step can do: a completion, an idle turn of the core, or a host step. -/
theorem everyStepKeepsInvariant : Obligations.EveryStepKeepsInvariant := by
  intro s t hs h
  rcases step_next h with ⟨-, hb, rfl⟩ | ⟨-, -, rfl⟩ | ⟨-, h⟩
  · exact hs.passTurn.complete hb
  · exact hs.passTurn
  · exact hs.passTurn.of_hostStep h

end Sys2Proof.Machine
end

section
/-! PROOFS. The register and SRC statements of 10_state.md that speak of one step or one access. -/

namespace Sys2Proof.Machine

/-! ### STATUS (10_state.md R22) -/

/-- What a step does to STATUS: nothing, a completion, the issue of the word that is then latched, or reset. -/
theorem step_status {s t : State} (h : step s = .next t) :
    t.status = s.status ∨ (s.mover = .core ∧ s.busy = true) ∨
    (s.mover = .host ∧ s.ready = true ∧ t.status = statusIssued s.status ∧
      ∃ v rest, s.program = .access (.writeReg 0x00 32 v) :: rest ∧ t.pend = s.latch v) ∨
    (s.mover = .host ∧ t.status = 0 ∧ ∃ rest, s.program = .access .reset :: rest) := by
  rcases step_next h with ⟨hm, hb, -⟩ | ⟨-, -, rfl⟩ | ⟨hm, h⟩
  · exact .inr (.inl ⟨hm, hb⟩)
  · exact .inl rfl
  · rcases hostStep_core h with ⟨hstatus, -⟩ | ⟨hf, hb, v, rest, hp, rfl⟩ | ⟨rest, hp, rfl⟩
    · exact .inl hstatus
    · have hready : s.ready = true := by
        rw [State.ready, show s.busy = false from hb, show s.fatal = false from hf]
        rfl
      exact .inr (.inr (.inl ⟨hm, hready, rfl, v, rest, hp, rfl⟩))
    · exact .inr (.inr (.inr ⟨hm, rfl, rest, hp⟩))

/-- Settles O25: of the three ways to change STATUS only the issue sets BUSY, and only a completion sets DONE. -/
theorem statusChangesOnlyByProtocol : Obligations.StatusChangesOnlyByProtocol := by
  intro s t h
  rcases step_status h with hsame | ⟨hm, hbusy⟩ | ⟨hm, hready, hstatus, hlatch⟩ | ⟨hm, hstatus, hreset⟩
  · refine ⟨fun hne => absurd hsame hne, fun hb hb' => ?_, fun hd hd' => ?_⟩
    · rw [State.busy, hsame] at hb'
      exact absurd hb' (Bool.eq_false_iff.mp hb)
    · rw [State.done, hsame] at hd'
      exact absurd hd' (Bool.eq_false_iff.mp hd)
  · exact ⟨fun _ => .inl ⟨hm, hbusy⟩, fun hb => absurd hbusy (Bool.eq_false_iff.mp hb), fun _ _ => ⟨hm, hbusy⟩⟩
  · refine ⟨fun _ => .inr (.inl ⟨hm, hready, hlatch⟩), fun _ _ => ⟨hm, hready, hlatch⟩, fun _ hd' => ?_⟩
    rw [State.done, hstatus, statusDone_statusIssued] at hd'
    cases hd'
  · refine ⟨fun _ => .inr (.inr ⟨hm, hreset⟩), fun _ hb' => ?_, fun _ hd' => ?_⟩
    · rw [State.busy, hstatus] at hb'
      cases hb'
    · rw [State.done, hstatus] at hd'
      cases hd'

/-! ### The core's step (10_state.md R23 to R26, R35) -/

/-- Settles O28: the core's step is a completion or nothing. -/
theorem coreNeverWritesOperandsOrSrc : Obligations.CoreNeverWritesOperandsOrSrc := by
  intro s t h
  rcases coreStep_cases s with ⟨-, hc⟩ | ⟨-, hc⟩
  · obtain rfl := Host.Outcome.next.inj (hc.symm.trans h)
    exact ⟨State.complete_width _ _, State.complete_height _ _, State.complete_srcLen _ _,
      State.complete_typeTag _ _, State.complete_src _ _,
      fun a => State.srcByte_congr _ _ a (State.complete_src _ _) (State.complete_resets _ _)⟩
  · obtain rfl := Host.Outcome.next.inj (hc.symm.trans h)
    exact ⟨rfl, rfl, rfl, rfl, rfl, fun _ => rfl⟩

/-! ### Forms of access (10_state.md R29, 20_memory.md R55) -/

theorem access_of_not_wellFormed {a : Access} (s : State) (h : ¬ a.wellFormed = true) :
    access a s = .refused .notInTheInterface := by
  unfold access
  exact if_neg h

theorem wellFormed_readReg (o b : Nat) : (Access.readReg o b).wellFormed = true ↔ b = 32 ∧ o % 4 = 0 := by
  simp [Access.wellFormed]

theorem wellFormed_writeReg (o b : Nat) (v : Word) :
    (Access.writeReg o b v).wellFormed = true ↔ b = 32 ∧ o % 4 = 0 := by
  simp [Access.wellFormed]

theorem access_readReg {o : Nat} (s : State) (h : o % 4 = 0) :
    access (.readReg o 32) s = .next ((readRegister o s).2.pushReading (.word (readRegister o s).1)) :=
  if_pos ((wellFormed_readReg o 32).mpr ⟨rfl, h⟩)

theorem access_writeReg {o : Nat} (s : State) (v : Word) (h : o % 4 = 0) :
    access (.writeReg o 32 v) s = .next (writeRegister o v s) :=
  if_pos ((wellFormed_writeReg o 32 v).mpr ⟨rfl, h⟩)

theorem readRegister_of_none {o : Nat} (s : State) (h : regAt o = none) : readRegister o s = (0, s) := by
  unfold readRegister
  rw [h]

theorem writeRegister_of_none {o : Nat} (v : Word) (s : State) (h : regAt o = none) : writeRegister o v s = s := by
  unfold writeRegister
  rw [h]

/-- Settles O29: a reserved offset holds no register, and every other form is not well formed. -/
theorem reservedOffsetsReadZero : Obligations.ReservedOffsetsReadZero := by
  refine ⟨fun s o v ho hres => ?_, fun s o b v hform => ?_, fun s x b v hb => ?_⟩
  · have hnone := regAt_reserved o hres
    rw [access_readReg s ho, access_writeReg s v ho, readRegister_of_none s hnone,
      writeRegister_of_none v s hnone]
    exact ⟨rfl, rfl⟩
  · have hbad : ¬ (b = 32 ∧ o % 4 = 0) := by omega
    exact ⟨access_of_not_wellFormed s (mt (wellFormed_readReg o b).mp hbad),
      access_of_not_wellFormed s (mt (wellFormed_writeReg o b v).mp hbad)⟩
  · have hbad : ¬ (b == 8) = true := mt beq_iff_eq.mp hb
    exact ⟨access_of_not_wellFormed s hbad, access_of_not_wellFormed s hbad, access_of_not_wellFormed s hbad⟩

/-! ### SRC (10_state.md R35, 00_scope.md R9) -/

theorem access_writeSrc {x : Nat} {s : State} (v : Byte) (hx : x < Config.srcSpace)
    (ho : s.ownedByCore x = false) : access (.writeSrc x 8 v) s = .next (s.storeSrc x v) := by
  have hspace : ¬ Config.srcSpace ≤ x := Nat.not_le.mpr hx
  simp [access, Access.wellFormed, hspace, ho]

theorem State.srcByte_storeSrc_same (s : State) (x : Nat) (v : Byte) : (s.storeSrc x v).srcByte x = v := by
  rw [State.srcByte, State.storeSrc_src, Memory.read?_write_same, Option.getD_some]

theorem State.srcByte_storeSrc_other (s : State) {x a : Nat} (v : Byte) (h : a ≠ x) :
    (s.storeSrc x v).srcByte a = s.srcByte a := by
  rw [State.srcByte, State.storeSrc_src, Memory.read?_write_other _ _ _ _ h]
  rfl

/-- Settles O32: the write is `storeSrc`, whose reads the laws of SRC give. -/
theorem srcStoreThenLoad : Obligations.SrcStoreThenLoad := fun s x v hx ho =>
  ⟨s.storeSrc x v, access_writeSrc v hx ho, s.srcByte_storeSrc_same x v,
    fun _ ha => s.srcByte_storeSrc_other v ha, rfl⟩

/-- In a canonical memory a byte reads as written exactly where it is listed: no address is listed twice. -/
theorem Memory.read?_eq_some_iff {m : Memory} (hm : Memory.wf m) (a : Nat) (v : Byte) :
    Memory.read? m a = some v ↔ (a, v) ∈ m := by
  obtain ⟨hp, -⟩ := hm
  induction m with
  | nil => simp [Memory.read?]
  | cons c m ih =>
    obtain ⟨x, u⟩ := c
    obtain ⟨hx, hp'⟩ := List.pairwise_cons.mp hp
    by_cases h : x = a
    · subst h
      have hnot : (x, v) ∉ m := fun hmem => lt_irrefl x (hx _ hmem)
      simp [Memory.read?, hnot, eq_comm]
    · simp [Memory.read?, h, Ne.symm h, ih hp']

/-- Settles O33: both memories list the same cells, in rising order of address. -/
theorem equalReadsMeanEqualMemory : Obligations.EqualReadsMeanEqualMemory := by
  intro m m' hm hm' hread
  have hmem : ∀ c, c ∈ m ↔ c ∈ m' := fun (a, v) => by
    rw [← Memory.read?_eq_some_iff hm, ← Memory.read?_eq_some_iff hm', hread a]
  have hasymm : Std.Asymm (fun c d : Host.Cell => c.1 < d.1) := ⟨fun _ _ => lt_asymm⟩
  have hirrefl : Std.Irrefl (fun c d : Host.Cell => c.1 < d.1) := ⟨fun c => lt_irrefl c.1⟩
  obtain ⟨hrising, -⟩ := hm
  obtain ⟨hrising', -⟩ := hm'
  exact hrising.eq_of_mem_iff hrising' hmem

end Sys2Proof.Machine
end

section
/-! PROOFS. The host's reads: what a read hands over, that a reading changes no read, and the effects
of accesses on the state (20_memory.md R51, R56, R59). -/

namespace Sys2Proof.Machine

/-! ### What a read hands over -/

theorem readWhenIdle_of_idle {s : State} (v : Word) (h : s.busy = false) : readWhenIdle s v = (v, s) := by
  simp [readWhenIdle, h]

theorem readOutByte_of_idle {s : State} (i : Nat) (h : s.busy = false) :
    readOutByte i s = ((s.out[i]?).getD (Config.outBeyondEnd s.resets s.completions i), s) := by
  simp [readOutByte, h]

/-- Only RESULT and OUT_LEN draw a free value, and only while BUSY = 1 (20_memory.md R56). -/
theorem readRegister_state_of_stable {o : Nat} {s : State} (h : s.busy = false ∨ (o ≠ 0x18 ∧ o ≠ 0x1C)) :
    (readRegister o s).2 = s := by
  rcases readRegister_state o s with hs | ⟨hbusy, -⟩
  · exact hs
  · obtain ⟨hresult, hlen⟩ := h.resolve_left (by simp [hbusy])
    cases hreg : regAt o with
    | none => rw [readRegister_of_none s hreg]
    | some r =>
      obtain rfl := (regAt_eq_some o r).mp hreg
      cases r with
      | result => exact absurd rfl hresult
      | outLen => exact absurd rfl hlen
      | cmd | status | width | height | srcLen | typeTag => rfl

/-! ### A reading handed to the host changes no read -/

@[simp] theorem State.srcByte_pushReading (s : State) (r : Reading) (a : Nat) :
    (s.pushReading r).srcByte a = s.srcByte a := State.srcByte_congr _ _ a rfl rfl

theorem readWhenIdle_pushReading (s : State) (r : Reading) (v : Word) :
    readWhenIdle (s.pushReading r) v = ((readWhenIdle s v).1, (readWhenIdle s v).2.pushReading r) := by
  have hbusy : (s.pushReading r).busy = s.busy := rfl
  unfold readWhenIdle
  rw [hbusy]
  cases s.busy <;> rfl

@[simp] theorem readRegister_pushReading (o : Nat) (s : State) (r : Reading) :
    readRegister o (s.pushReading r) = ((readRegister o s).1, (readRegister o s).2.pushReading r) := by
  unfold readRegister
  cases regAt o with
  | none => rfl
  | some q =>
    cases q with
    | result | outLen => exact readWhenIdle_pushReading s r _
    | cmd | status | width | height | srcLen | typeTag => rfl

/-! ### One rule per access -/

theorem access_readSrc {x : Nat} (s : State) (hx : x < Config.srcSpace) :
    access (.readSrc x 8) s = .next (s.pushReading (.byte (s.srcByte x))) :=
  if_neg (Nat.not_le.mpr hx)

theorem access_readOut_of_idle {s : State} (i : Nat) (h : s.busy = false) :
    access (.readOut i 8) s =
      .next (s.pushReading (.byte ((s.out[i]?).getD (Config.outBeyondEnd s.resets s.completions i)))) := by
  simp [access, Access.wellFormed, readOutByte_of_idle i h]

theorem access_readReg_next {o b : Nat} {s t : State} (h : access (.readReg o b) s = .next t) :
    (b = 32 ∧ o % 4 = 0) ∧ t = (readRegister o s).2.pushReading (.word (readRegister o s).1) := by
  simpa [wellFormed_readReg] using access_next h

theorem access_readSrc_next {x b : Nat} {s t : State} (h : access (.readSrc x b) s = .next t) :
    b = 8 ∧ x < Config.srcSpace ∧ t = s.pushReading (.byte (s.srcByte x)) := by
  simpa [Access.wellFormed] using access_next h

theorem access_readOut_next {i b : Nat} {s t : State} (h : access (.readOut i b) s = .next t) :
    b = 8 ∧ t = (readOutByte i s).2.pushReading (.byte (readOutByte i s).1) := by
  simpa [Access.wellFormed] using access_next h

theorem access_writeSrc_next {x b : Nat} {v : Byte} {s t : State} (h : access (.writeSrc x b v) s = .next t) :
    b = 8 ∧ x < Config.srcSpace ∧ s.ownedByCore x = false ∧ t = s.storeSrc x v := by
  simpa [Access.wellFormed] using access_next h

/-! ### The obligations of 20_memory.md -/

/-- Settles O30: a read that draws no free value only hands over a reading, and a reading changes no
read; each write is the update of one field, or none. -/
theorem accessSideEffects : Obligations.AccessSideEffects := by
  refine ⟨fun s t a h hread => ?_, fun s v => ?_, fun s t x v h => ?_⟩
  · rcases hread with ⟨o, b, rfl, hstable⟩ | ⟨x, b, rfl⟩ | ⟨i, b, rfl, hidle⟩
    · obtain ⟨⟨rfl, ho⟩, rfl⟩ := access_readReg_next h
      have hs := readRegister_state_of_stable hstable
      exact ⟨.word (readRegister o s).1, by rw [hs], by simp [access_readReg _ ho, hs]⟩
    · obtain ⟨rfl, hx, rfl⟩ := access_readSrc_next h
      exact ⟨.byte (s.srcByte x), rfl, by simp [access_readSrc _ hx]⟩
    · obtain ⟨rfl, rfl⟩ := access_readOut_next h
      rw [readOutByte_of_idle i hidle]
      exact ⟨_, rfl, access_readOut_of_idle i hidle⟩
  · exact ⟨access_writeReg s v rfl, access_writeReg s v rfl, access_writeReg s v rfl, access_writeReg s v rfl,
      access_writeReg s v rfl, access_writeReg s v rfl, access_writeReg s v rfl, fun o ho hres => by
        rw [access_writeReg s v ho, writeRegister_of_none v s (regAt_reserved o hres)]⟩
  · obtain ⟨-, -, -, rfl⟩ := access_writeSrc_next h
    rfl

/-- Settles O35: every register read is the register's own row of R21 to R28, and `readWhenIdle` gives
the register once BUSY = 0. -/
theorem idleReadsSeeResults : Obligations.IdleReadsSeeResults := by
  refine ⟨fun s => ⟨access_readReg s rfl, access_readReg s rfl, access_readReg s rfl, access_readReg s rfl,
    access_readReg s rfl⟩, fun s hidle => ⟨?_, ?_, access_readReg s rfl, fun i b hb => ?_, fun i hi => ?_⟩⟩
  · have hresult : readRegister 0x18 s = (s.result, s) := readWhenIdle_of_idle s.result hidle
    rw [access_readReg s rfl, hresult]
  · have hlen : readRegister 0x1C s = (s.outLen, s) := readWhenIdle_of_idle s.outLen hidle
    rw [access_readReg s rfl, hlen]
  · rw [access_readOut_of_idle i hidle, hb, Option.getD_some]
  · rw [access_readOut_of_idle i hidle, List.getElem?_eq_none hi, Option.getD_none]

end Sys2Proof.Machine
end

section
/-! PROOFS. The opcode map read in both directions, and which words are illegal (30_encoding.md R80 to
R85). -/

namespace Sys2Proof

/-! ### The fields of a command word (30_encoding.md R81) -/

theorem zeroField_append_opcodeField (w : Word) : (zeroField w ++ opcodeField w : BitVec 32) = w := by
  refine BitVec.eq_of_getLsbD_eq fun j hj => ?_
  simp only [zeroField, opcodeField, BitVec.getLsbD_append, BitVec.getLsbD_extractLsb']
  by_cases h : j < 8
  · simp [h]
  · have hhigh : j - 8 < 24 := by omega
    have hsum : 8 + (j - 8) = j := by omega
    simp [h, hhigh, hsum]

/-- A word is determined by its two fields. -/
theorem word_ext_fields {w v : Word} (hz : zeroField w = zeroField v) (ho : opcodeField w = opcodeField v) :
    w = v := by
  rw [← zeroField_append_opcodeField w, hz, ho, zeroField_append_opcodeField]

@[simp] theorem zeroField_encode (i : Instr) : zeroField (encode i) = 0 := by
  cases i <;> rfl

/-! ### The decoder (30_encoding.md R84, 60_exceptions.md R205) -/

/-- The opcode map has one row for each command. -/
theorem opcode_of_decodeOpcode_eq_command {op : BitVec 8} {i : Instr} (h : decodeOpcode op = .command i) :
    op = opcodeField (encode i) := by
  unfold decodeOpcode at h
  split_ifs at h with h1 h2 h3 h4 h5 h6 h7 <;> cases h <;> assumption

theorem decode_encode (i : Instr) : decode (encode i) = .command i := by
  cases i <;> rfl

theorem decode_eq_command_iff (w : Word) (i : Instr) : decode w = .command i ↔ w = encode i := by
  constructor
  · intro h
    unfold decode at h
    split_ifs at h with hz
    have hzero : zeroField w = 0 := not_not.mp hz
    exact word_ext_fields (hzero.trans (zeroField_encode i).symm) (opcode_of_decodeOpcode_eq_command h)
  · rintro rfl
    exact decode_encode i

theorem decode_illegal_iff_not_command (w : Word) :
    (∃ why, decode w = .illegal why) ↔ ∀ i, decode w ≠ .command i := by
  cases decode w <;> simp

/-- The command words are the numbers 1 to 7. -/
theorem exists_eq_encode_iff (w : Word) : (∃ i, w = encode i) ↔ 1 ≤ w.toNat ∧ w.toNat ≤ 7 := by
  constructor
  · rintro ⟨i, rfl⟩
    cases i <;> decide
  · rintro ⟨hlow, hhigh⟩
    obtain ⟨n, hn⟩ : ∃ n, w.toNat = n := ⟨_, rfl⟩
    obtain rfl : w = BitVec.ofNat 32 n := by rw [← hn, BitVec.ofNat_toNat, BitVec.setWidth_eq]
    rw [hn] at hlow hhigh
    interval_cases n
    exacts [⟨.crc32, rfl⟩, ⟨.adler32, rfl⟩, ⟨.pack, rfl⟩, ⟨.chunk, rfl⟩, ⟨.assemble, rfl⟩, ⟨.filter, rfl⟩,
      ⟨.encode, rfl⟩]

/-- The illegal words are 0 and everything above 7 (30_encoding.md R85). -/
theorem decode_illegal_iff (w : Word) : (∃ why, decode w = .illegal why) ↔ w.toNat = 0 ∨ 7 < w.toNat := by
  have hcommand : (∀ i, decode w ≠ .command i) ↔ ¬ ∃ i, w = encode i := by
    simp only [ne_eq, decode_eq_command_iff, not_exists]
  rw [decode_illegal_iff_not_command, hcommand, exists_eq_encode_iff]
  omega

/-- Settles O1: each of the seven words is the command's own word. -/
theorem commandWordsDecode : Obligations.CommandWordsDecode :=
  ⟨decode_encode .crc32, decode_encode .adler32, decode_encode .pack, decode_encode .chunk,
    decode_encode .assemble, decode_encode .filter, decode_encode .encode⟩

/-- Settles O2: a word is determined by its two fields, and each opcode has one row of the map. -/
theorem decodeInvertsEncode : Obligations.DecodeInvertsEncode :=
  ⟨rfl, rfl, rfl, rfl, rfl, rfl, rfl, decode_eq_command_iff, decode_illegal_iff⟩

end Sys2Proof
end

section
/-! PROOFS. What a completion leaves (60_exceptions.md R202, R210), and the completion of an illegal
command word (30_encoding.md R85, 60_exceptions.md R212). -/

namespace Sys2Proof.Machine

/-! ### Every completion -/

@[simp] theorem State.complete_program (s : State) (o : CmdOutcome) : (s.complete o).program = s.program := by
  cases o <;> rfl
@[simp] theorem State.complete_readings (s : State) (o : CmdOutcome) :
    (s.complete o).readings = s.readings := by
  cases o <;> rfl
@[simp] theorem State.complete_turns (s : State) (o : CmdOutcome) : (s.complete o).turns = s.turns := by
  cases o <;> rfl

@[simp] theorem State.complete_busy (s : State) (o : CmdOutcome) : (s.complete o).busy = false := by
  cases o with
  | ok r bs => exact statusBusy_statusSucceeded s.status
  | err e => exact statusBusy_statusFailed e s.status

@[simp] theorem State.complete_done (s : State) (o : CmdOutcome) : (s.complete o).done = true := by
  cases o with
  | ok r bs => exact statusDone_statusSucceeded s.status
  | err e => exact statusDone_statusFailed e s.status

/-- The reserved bits of STATUS are no part of a completion (10_state.md R22). -/
theorem State.complete_sameReserved (s : State) (o : CmdOutcome) : State.SameReserved s (s.complete o) := by
  cases o with
  | ok r bs => exact ⟨statusReservedLow_statusSucceeded s.status, statusReservedHigh_statusSucceeded s.status⟩
  | err e => exact ⟨statusReservedLow_statusFailed e s.status, statusReservedHigh_statusFailed e s.status⟩

theorem State.complete_frame (s : State) (o : CmdOutcome) : State.CompletionFrame s (s.complete o) where
  width := s.complete_width o
  height := s.complete_height o
  srcLen := s.complete_srcLen o
  typeTag := s.complete_typeTag o
  srcBytes a := State.srcByte_congr _ _ a (s.complete_src o) (s.complete_resets o)
  src := s.complete_src o
  reserved := s.complete_sameReserved o
  program := s.complete_program o
  readings := s.complete_readings o
  turns := s.complete_turns o

/-! ### Completion with an error -/

/-- Code 3 is the one that sets FATAL (60_exceptions.md R216). -/
theorem State.raise_fatal (s : State) (e : CoreError) :
    (s.raise e).fatal = (s.fatal || e == .internalInvariantViolation) := by
  have hcode : (errorCode e == 3#4) = (e == .internalInvariantViolation) := by cases e <;> decide
  rw [← hcode]
  exact statusFatal_statusFailed e s.status

theorem State.raise_completedErr (s : State) (e : CoreError) : State.CompletedErr s (s.raise e) e where
  resultIs := rfl
  outIs := rfl
  outLenIs := rfl
  busy := s.complete_busy (.err e)
  done := s.complete_done (.err e)
  err := statusErr_statusFailed e s.status
  fatal := s.raise_fatal e
  pend := rfl
  units := rfl
  frame := s.complete_frame (.err e)

/-! ### Issue and completion of a word -/

theorem State.ready_iff (s : State) : s.ready = true ↔ s.busy = false ∧ s.fatal = false := by
  simp [State.ready]

theorem State.issue_of_ready {s : State} (h : s.ready = true) (v : Word) : s.issue v = s.issued v := by
  obtain ⟨hb, hf⟩ := s.ready_iff.mp h
  simp [State.issue, hb, hf]

/-- A CMD write on a ready core issues, whatever the word (60_exceptions.md R201). -/
theorem access_writeCmd_of_ready {s : State} (h : s.ready = true) (v : Word) :
    access (.writeReg 0x00 32 v) s = .next (s.issued v) := by
  rw [access_writeReg s v rfl]
  exact congrArg _ (State.issue_of_ready h v)

theorem coreStep_of_busy {s : State} (h : s.busy = true) :
    coreStep s = .next (s.complete (outcomeOfWord Config.machine s.pend (s.srcBuf s.pend.length))) := by
  rcases coreStep_cases s with ⟨-, hc⟩ | ⟨hidle, -⟩
  · exact hc
  · exact absurd h (Bool.eq_false_iff.mp hidle)

theorem outcomeOfWord_of_illegal (c : Config) {p : Pend} (input : Bytes)
    (h : p.op.toNat = 0 ∨ 7 < p.op.toNat) : outcomeOfWord c p input = .err .illegalCommand := by
  obtain ⟨why, hwhy⟩ := (decode_illegal_iff p.op).mpr h
  rw [outcomeOfWord, hwhy]

theorem outcomeOfWord_of_command (c : Config) {p : Pend} (input : Bytes) {i : Instr} (h : p.op = encode i) :
    outcomeOfWord c p input = outcomeOf i c p input := by
  rw [outcomeOfWord, h, decode_encode]

theorem coreStep_of_illegal {s : State} (hb : s.busy = true)
    (h : s.pend.op.toNat = 0 ∨ 7 < s.pend.op.toNat) : coreStep s = .next (s.raise .illegalCommand) := by
  rw [coreStep_of_busy hb, outcomeOfWord_of_illegal _ _ h, State.complete_err]

/-- Settles O3: the outcome of an illegal word is `Err(5)` for every input, so SRC has no part in it. -/
theorem illegalWordCompletesWithCode5 : Obligations.IllegalWordCompletesWithCode5 := by
  refine fun s w hw => ⟨fun hready => access_writeCmd_of_ready hready w, ?_⟩
  rintro hb rfl
  have hdone := s.raise_completedErr .illegalCommand
  exact ⟨s.raise .illegalCommand, coreStep_of_illegal hb hw, hdone, hdone.err, fun m =>
    coreStep_of_illegal (s := { s with src := m }) hb hw⟩

end Sys2Proof.Machine
end

section
/-! PROOFS. The host programs of 30_encoding.md R88 run on the machine with no turns fixed: each step of
a host program as one rule, then RUN, LOAD, FETCH and MOVE as runs. -/

namespace Sys2Proof.Machine

/-! ### Runs -/

theorem runFor_succ {s t : State} (k : Nat) (h : step s = .next t) : runFor (k + 1) s = runFor k t := by
  rw [runFor, h]

theorem runFor_add {s t : State} (j k : Nat) (h : runFor j s = .next t) :
    runFor (j + k) s = runFor k t := by
  induction j generalizing s with
  | zero => cases h; rw [Nat.zero_add]
  | succ j ih =>
    rw [Nat.succ_add]
    cases hs : step s with
    | next u =>
      rw [runFor_succ j hs] at h
      rw [runFor_succ _ hs, ih h]
    | fault r => simp [runFor, hs] at h
    | refused r => simp [runFor, hs] at h

/-! ### Who moves with no turns fixed (log 1) -/

/-- No turn is fixed and no completion is owed: the host moves next. -/
structure State.HostMoves (s : State) : Prop where
  idle : s.busy = false
  turns : s.turns = []

/-- Who moves is a matter of STATUS and of the turns only. -/
theorem State.HostMoves.of_eq {s t : State} (hs : s.HostMoves) (hstatus : t.status = s.status)
    (hturns : t.turns = s.turns) : t.HostMoves where
  idle := by rw [State.busy, hstatus]; exact hs.idle
  turns := hturns.trans hs.turns

theorem State.HostMoves.setProgram {s : State} (hs : s.HostMoves) (p : List HostStep) :
    (s.setProgram p).HostMoves := hs.of_eq rfl rfl

theorem State.HostMoves.pushReading {s : State} (hs : s.HostMoves) (r : Reading) :
    (s.pushReading r).HostMoves := hs.of_eq rfl rfl

theorem State.HostMoves.storeSrc {s : State} (hs : s.HostMoves) (a : Nat) (v : Byte) :
    (s.storeSrc a v).HostMoves := hs.of_eq rfl rfl

theorem State.HostMoves.step_eq {s : State} (hs : s.HostMoves) : step s = hostStep s := by
  simp [step, State.mover, hs.turns, hs.idle]

theorem step_of_busy {s : State} (hturns : s.turns = []) (hb : s.busy = true) : step s = coreStep s := by
  simp [step, State.mover, hturns, hb]

/-! ### One step of a host program -/

/-- A program step that is an access makes that access. -/
theorem State.HostMoves.step_access {s : State} (hs : s.HostMoves) (a : Access) (rest : List HostStep) :
    step (s.setProgram (.access a :: rest)) = access a (s.setProgram rest) :=
  (hs.setProgram _).step_eq

/-- WAIT on an idle core reads STATUS once and goes on (log 15). -/
theorem State.HostMoves.step_wait {s : State} (hs : s.HostMoves) (rest : List HostStep) :
    step (s.setProgram (.wait :: rest)) = .next ((s.pushReading (.word s.status)).setProgram rest) :=
  (hs.setProgram _).step_eq.trans
    (congrArg _ (if_neg (Bool.eq_false_iff.mp hs.idle)))

/-- On an idle core an expansion that reads OUT_LEN sees it. -/
theorem State.HostMoves.readLengthThen_eq {s : State} (hs : s.HostMoves) (expand : Nat → List HostStep) :
    readLengthThen expand s =
      (s.pushReading (.word s.outLen)).setProgram (expand s.outLen.toNat ++ s.program) := by
  have hread : readRegister (regOffset .outLen) s = (s.outLen, s) := readWhenIdle_of_idle s.outLen hs.idle
  rw [readLengthThen, hread]
  rfl

theorem State.HostMoves.step_fetch {s : State} (hs : s.HostMoves) (rest : List HostStep) :
    step (s.setProgram (.fetch :: rest)) =
      .next ((s.pushReading (.word s.outLen)).setProgram (readOuts s.outLen.toNat ++ rest)) :=
  (hs.setProgram _).step_eq.trans
    (congrArg _ ((hs.setProgram rest).readLengthThen_eq readOuts))

theorem State.HostMoves.step_move {s : State} (hs : s.HostMoves) (rest : List HostStep) :
    step (s.setProgram (.move :: rest)) =
      .next ((s.pushReading (.word s.outLen)).setProgram
        (readOuts s.outLen.toNat ++ [.reload s.outLen.toNat] ++ rest)) :=
  (hs.setProgram _).step_eq.trans
    (congrArg _ ((hs.setProgram rest).readLengthThen_eq
      fun k => readOuts k ++ [.reload k]))

theorem State.HostMoves.step_reload {s : State} (hs : s.HostMoves) (k : Nat) (rest : List HostStep) :
    step (s.setProgram (.reload k :: rest)) = .next (s.setProgram (hostLOAD (s.lastReadings k) ++ rest)) :=
  (hs.setProgram _).step_eq

/-! ### RUN -/

theorem State.setProgram_complete (s : State) (p : List HostStep) (o : CmdOutcome) :
    (s.setProgram p).complete o = (s.complete o).setProgram p := by
  cases o <;> rfl

/-- What the command `i` yields on the operand registers and SRC as they stand. -/
def State.outcomeNow (s : State) (i : Instr) : CmdOutcome :=
  outcomeOf i Config.machine (s.latch (encode i)) (s.srcBuf s.srcLen.toNat)

/-- The state once the command `i` has been issued and completed (`step_issued`). -/
def State.commanded (s : State) (i : Instr) : State := (s.issued (encode i)).complete (s.outcomeNow i)

theorem State.HostMoves.commanded {s : State} (hs : s.HostMoves) (i : Instr) : (s.commanded i).HostMoves where
  idle := State.complete_busy _ _
  turns := (State.complete_turns _ _).trans hs.turns

/-- The core's step right after the issue of a command, whatever program the host goes on with. -/
theorem step_issued {s : State} (hturns : s.turns = []) (i : Instr) (p : List HostStep) :
    step ((s.setProgram p).issued (encode i)) = .next ((s.commanded i).setProgram p) := by
  have hb : ((s.setProgram p).issued (encode i)).busy = true := statusBusy_statusIssued s.status
  rw [step_of_busy (s := (s.setProgram p).issued _) hturns hb, coreStep_of_busy hb,
    outcomeOfWord_of_command _ _ rfl, State.commanded, ← State.setProgram_complete]
  rfl

/-- RUN takes three steps: the issue, the completion, and the STATUS read of WAIT. -/
theorem runFor_hostRUN {s : State} (hready : s.ready = true) (hturns : s.turns = []) (i : Instr)
    (rest : List HostStep) :
    runFor 3 (s.setProgram (hostRUN i ++ rest)) =
      .next (((s.commanded i).pushReading (.word (s.commanded i).status)).setProgram rest) := by
  have hs : s.HostMoves := ⟨(s.ready_iff.mp hready).1, hturns⟩
  have hissue : step (s.setProgram (hostRUN i ++ rest)) =
      .next ((s.setProgram (.wait :: rest)).issued (encode i)) :=
    (hs.step_access _ _).trans
      (access_writeCmd_of_ready (s := s.setProgram (.wait :: rest)) hready (encode i))
  rw [runFor_succ 2 hissue, runFor_succ 1 (step_issued hturns i _),
    runFor_succ 0 ((hs.commanded i).step_wait rest)]
  rfl

/-- Settles O56: the completion between the CMD write and WAIT is that of the command's outcome. -/
theorem runIssuesAndWaits : Obligations.RunIssuesAndWaits := by
  intro s i rest hready hturns hprogram
  have hrun := runFor_hostRUN hready hturns i rest
  rw [← hprogram] at hrun
  refine ⟨_, hrun, rfl, State.complete_busy _ _, State.complete_done _ _,
    congrArg (_ :: ·) (State.complete_readings _ _), ?_⟩
  cases ho : s.outcomeNow i with
  | ok r bs =>
    have hok : s.commanded i = (s.issued (encode i)).succeed r bs := congrArg _ ho
    exact .inl ⟨r, bs, ho, congrArg State.result hok, congrArg State.out hok,
      (congrArg State.err hok).trans (statusErr_statusSucceeded _)⟩
  | err e =>
    have herr : s.commanded i = (s.issued (encode i)).raise e := congrArg _ ho
    exact .inr ⟨e, ho, congrArg State.result herr, congrArg State.out herr,
      (congrArg State.err herr).trans (statusErr_statusFailed e _)⟩

/-! ### LOAD -/

/-- The state once the host has stored `bs` at the SRC addresses from `a` up (`runFor_storeFrom`). -/
def State.storeBytes (s : State) : (a : Nat) → Bytes → State
  | _, [] => s
  | a, v :: bs => (s.storeSrc a v).storeBytes (a + 1) bs

theorem State.storeBytes_cons (s : State) (a : Nat) (v : Byte) (bs : Bytes) :
    s.storeBytes a (v :: bs) = (s.storeSrc a v).storeBytes (a + 1) bs := rfl

/-- Stores change SRC and nothing else. -/
theorem State.storeBytes_frame (s : State) (a : Nat) (bs : Bytes) :
    s.storeBytes a bs = { s with src := (s.storeBytes a bs).src } := by
  induction bs generalizing s a with
  | nil => rfl
  | cons v bs ih => exact ih (s.storeSrc a v) (a + 1)

theorem State.srcByte_storeBytes_outside (s : State) {a x : Nat} (bs : Bytes)
    (h : x < a ∨ a + bs.length ≤ x) : (s.storeBytes a bs).srcByte x = s.srcByte x := by
  induction bs generalizing s a with
  | nil => rfl
  | cons v bs ih =>
    rw [List.length_cons] at h
    rw [State.storeBytes_cons, ih _ (by omega), State.srcByte_storeSrc_other s v (by omega)]

theorem State.srcByte_storeBytes (s : State) (a : Nat) (bs : Bytes) (k : Nat) (hk : k < bs.length) :
    (s.storeBytes a bs).srcByte (a + k) = bs[k] := by
  induction bs generalizing s a k with
  | nil => exact absurd hk (Nat.not_lt_zero k)
  | cons v bs ih =>
    rw [State.storeBytes_cons]
    cases k with
    | zero =>
      rw [State.srcByte_storeBytes_outside _ bs (by omega)]
      exact s.srcByte_storeSrc_same a v
    | succ k =>
      rw [show a + (k + 1) = a + 1 + k by omega, ih _ _ k (Nat.lt_of_succ_lt_succ hk)]
      rfl

theorem State.srcBuf_storeBytes (s : State) (bs : Bytes) : (s.storeBytes 0 bs).srcBuf bs.length = bs := by
  refine List.ext_getElem (State.length_srcBuf _ _) fun k _ hk => ?_
  rw [State.getElem_srcBuf, ← s.srcByte_storeBytes 0 bs k hk, Nat.zero_add]

theorem State.HostMoves.step_store {s : State} (hs : s.HostMoves) {a : Nat} (ha : a < Config.srcSpace)
    (v : Byte) (rest : List HostStep) :
    step (s.setProgram (hostST a v :: rest)) = .next ((s.storeSrc a v).setProgram rest) := by
  have howned : (s.setProgram rest).ownedByCore a = false := by
    rw [State.ownedByCore, show (s.setProgram rest).busy = false from hs.idle, Bool.false_and]
  exact (hs.step_access _ rest).trans (access_writeSrc v ha howned)

theorem runFor_storeFrom {s : State} (hs : s.HostMoves) (a : Nat) (bs : Bytes) (rest : List HostStep)
    (h : a + bs.length ≤ Config.srcSpace) :
    runFor bs.length (s.setProgram (storeFrom a bs ++ rest)) = .next ((s.storeBytes a bs).setProgram rest) := by
  induction bs generalizing s a with
  | nil => rfl
  | cons v bs ih =>
    rw [List.length_cons] at h ⊢
    rw [storeFrom, List.cons_append, runFor_succ _ (hs.step_store (by omega) v _)]
    exact ih (hs.storeSrc a v) (a + 1) (by omega)

/-- The state once the host has loaded `bs` (`runFor_hostLOAD`). -/
def State.loaded (s : State) (bs : Bytes) : State := (s.storeBytes 0 bs).setSrcLen (lengthWord bs)

theorem State.loaded_frame (s : State) (bs : Bytes) :
    s.loaded bs = { s with src := (s.loaded bs).src, srcLen := lengthWord bs } :=
  congrArg (fun t : State => t.setSrcLen (lengthWord bs)) (s.storeBytes_frame 0 bs)

/-- LOAD takes a step for each byte and one for SRC_LEN. -/
theorem runFor_hostLOAD {s : State} (hs : s.HostMoves) (bs : Bytes) (rest : List HostStep)
    (h : bs.length < Config.srcSpace) :
    runFor (bs.length + 1) (s.setProgram (hostLOAD bs ++ rest)) = .next ((s.loaded bs).setProgram rest) := by
  have hstored : (s.storeBytes 0 bs).HostMoves := by
    rw [s.storeBytes_frame 0 bs]
    exact hs.of_eq rfl rfl
  have hlen : step ((s.storeBytes 0 bs).setProgram (hostWR .srcLen (lengthWord bs) :: rest)) =
      .next ((s.loaded bs).setProgram rest) :=
    (hstored.step_access _ rest).trans (access_writeReg _ _ rfl)
  rw [hostLOAD, List.append_assoc, runFor_add _ _ (runFor_storeFrom hs 0 bs _ (by omega))]
  exact runFor_succ 0 hlen

/-- Settles O57: `loaded` is a store of each byte at its own address and one write of SRC_LEN. -/
theorem loadFillsSource : Obligations.LoadFillsSource := by
  intro s bs rest hidle hturns hfit hprogram
  have hrun := runFor_hostLOAD ⟨hidle, hturns⟩ bs rest hfit
  rw [← hprogram] at hrun
  refine ⟨_, hrun, rfl, toNat_lengthWord bs hfit, s.srcBuf_storeBytes bs, fun a ha => ?_, ?_⟩
  · exact s.srcByte_storeBytes_outside bs (.inr (by omega))
  · exact congrArg (fun t : State => t.setProgram rest) (s.loaded_frame bs)

/-! ### FETCH -/

/-- The readings `rs` handed to the host one after the other, the first of them first. -/
def State.pushReadings (s : State) (rs : List Reading) : State :=
  { s with readings := rs.reverse ++ s.readings }

theorem State.pushReadings_cons (s : State) (r : Reading) (rs : List Reading) :
    s.pushReadings (r :: rs) = (s.pushReading r).pushReadings rs := by
  simp [State.pushReadings, State.pushReading]

theorem State.lastReadings_pushReadings (s : State) (rs : List Reading) :
    (s.pushReadings rs).lastReadings rs.length = rs.map Reading.low := by
  have htake : (rs.reverse ++ s.readings).take rs.length = rs.reverse :=
    List.take_left' (List.length_reverse ..)
  rw [State.lastReadings, State.pushReadings, htake, List.reverse_reverse]

/-- What an OUT read at `k` hands over on an idle core (20_memory.md R51). -/
def State.outReading (s : State) (k : Nat) : Reading :=
  .byte ((s.out[k]?).getD (Config.outBeyondEnd s.resets s.completions k))

/-- A row of OUT reads, at whatever indices, hands over one reading for each. -/
theorem runFor_outReads {s : State} (hs : s.HostMoves) (ks : List Nat) (rest : List HostStep) :
    runFor ks.length (s.setProgram (ks.map hostRO ++ rest)) =
      .next ((s.pushReadings (ks.map s.outReading)).setProgram rest) := by
  induction ks generalizing s with
  | nil => rfl
  | cons k ks ih =>
    have hread : step (s.setProgram (hostRO k :: (ks.map hostRO ++ rest))) =
        .next ((s.pushReading (s.outReading k)).setProgram (ks.map hostRO ++ rest)) :=
      (hs.step_access _ _).trans (access_readOut_of_idle (s := s.setProgram _) k hs.idle)
    rw [List.length_cons, List.map_cons, List.map_cons, List.cons_append, runFor_succ _ hread,
      State.pushReadings_cons]
    exact ih (hs.pushReading _)

/-- Reading OUT from 0 to its end is reading its bytes. -/
theorem State.map_outReading_range (s : State) :
    (List.range s.out.length).map s.outReading = s.out.map Reading.byte := by
  refine List.ext_getElem (by simp) fun k _ hk => ?_
  rw [List.length_map] at hk
  simp [State.outReading, hk]

/-- The state once the host has read OUT_LEN and then the whole of OUT. -/
def State.fetched (s : State) : State :=
  (s.pushReading (.word s.outLen)).pushReadings (s.out.map Reading.byte)

theorem State.lastReadings_fetched (s : State) : s.fetched.lastReadings s.out.length = s.out := by
  have h := (s.pushReading (.word s.outLen)).lastReadings_pushReadings (s.out.map Reading.byte)
  rw [List.length_map, List.map_map] at h
  exact h.trans (List.map_id' s.out)

/-- The byte reads of FETCH and of MOVE, after the read of OUT_LEN. -/
theorem runFor_readOuts {s : State} (hs : s.HostMoves) (rest : List HostStep) :
    runFor s.out.length ((s.pushReading (.word s.outLen)).setProgram (readOuts s.out.length ++ rest)) =
      .next (s.fetched.setProgram rest) := by
  have hrun := runFor_outReads (hs.pushReading (.word s.outLen))
    (List.range s.out.length) rest
  rw [List.length_range] at hrun
  rw [State.fetched, ← s.map_outReading_range]
  exact hrun

/-- Settles O58: the host reads OUT_LEN, then each byte of OUT in order. -/
theorem fetchReadsWholeOutput : Obligations.FetchReadsWholeOutput := by
  intro s rest hidle hturns hlen hprogram
  have hs : s.HostMoves := ⟨hidle, hturns⟩
  have hfetch := hs.step_fetch rest
  rw [← hprogram, hlen] at hfetch
  exact ⟨s.fetched.setProgram rest, (runFor_succ _ hfetch).trans (runFor_readOuts hs rest), rfl,
    s.lastReadings_fetched, rfl, rfl⟩

/-! ### MOVE -/

/-- MOVE takes a step for OUT_LEN, the byte reads, the step that turns the readings into a LOAD, and LOAD. -/
theorem runFor_move {s : State} (hs : s.HostMoves) (hlen : s.outLen.toNat = s.out.length)
    (rest : List HostStep) :
    runFor (2 * s.out.length + 3) (s.setProgram (.move :: rest)) =
      .next ((s.fetched.loaded s.out).setProgram rest) := by
  have hfetched : s.fetched.HostMoves := hs.of_eq rfl rfl
  have hmove := hs.step_move rest
  rw [hlen, List.append_assoc] at hmove
  have hreload := hfetched.step_reload s.out.length rest
  rw [s.lastReadings_fetched] at hreload
  have hfit : s.out.length < Config.srcSpace := hlen ▸ s.outLen.isLt
  calc runFor (2 * s.out.length + 3) (s.setProgram (.move :: rest))
      = runFor (s.out.length + (s.out.length + 1 + 1) + 1) (s.setProgram (.move :: rest)) := by
        rw [show 2 * s.out.length + 3 = s.out.length + (s.out.length + 1 + 1) + 1 by omega]
    _ = runFor (s.out.length + 1 + 1) (s.fetched.setProgram (.reload s.out.length :: rest)) := by
        rw [runFor_succ _ hmove]
        exact runFor_add _ _ (runFor_readOuts hs _)
    _ = runFor (s.out.length + 1) (s.fetched.setProgram (hostLOAD s.out ++ rest)) := runFor_succ _ hreload
    _ = .next ((s.fetched.loaded s.out).setProgram rest) := runFor_hostLOAD hfetched s.out rest hfit

/-- Settles O59: MOVE loads what it has just fetched. -/
theorem moveCopiesOutputToSource : Obligations.MoveCopiesOutputToSource := by
  intro s rest hidle hturns hlen hprogram
  have hrun := runFor_move ⟨hidle, hturns⟩ hlen rest
  rw [← hprogram] at hrun
  refine ⟨_, hrun, rfl, lengthWord_eq hlen.symm, s.fetched.srcBuf_storeBytes s.out, ?_⟩
  rw [s.fetched.loaded_frame s.out]
  exact ⟨rfl, rfl, rfl⟩

end Sys2Proof.Machine
end

section
/-! PROOFS. The Checksum Engine (40_checksum.md): the CRC byte step, the Adler sums and their deferred
reduction, and the completions of CRC32 and ADLER32. -/

namespace Sys2Proof.Machine

/-! ### The CRC byte step (40_checksum.md R102) -/

/-- The byte enters bits 7:0 and leaves bits 31:8 as they are. -/
theorem extractLsb'_xor_byte (c : Word) (x : Byte) :
    (c ^^^ x.setWidth 32).extractLsb' 8 24 = c.extractLsb' 8 24 ∧
      (c ^^^ x.setWidth 32).extractLsb' 0 8 = c.extractLsb' 0 8 ^^^ x := by
  have hhigh : (x.setWidth 32).extractLsb' 8 24 = 0#24 := by
    ext i hi
    simp
  have hlow : (x.setWidth 32).extractLsb' 0 8 = x := by
    rw [BitVec.extractLsb'_setWidth_of_le (by decide), BitVec.extractLsb'_eq_self]
  rw [BitVec.extractLsb'_xor, BitVec.extractLsb'_xor, hhigh, hlow]
  exact ⟨BitVec.xor_zero, rfl⟩

/-- Settles O38: the eight steps and the unit's register by definition, the XOR field by field. -/
theorem crcByteIsEightBitSteps : Obligations.CrcByteIsEightBitSteps :=
  ⟨fun _ _ => rfl, extractLsb'_xor_byte, by decide, by decide, fun _ _ => rfl⟩

/-! ### The Adler byte step (40_checksum.md R109, R112) -/

theorem toNat_adlerByte_a (r : AdlerSums) (x : Byte) :
    (adlerByte r x).a.toNat = (r.a.toNat + x.toNat) % 65521 := by
  simp only [adlerByte, adlerM, BitVec.toNat_ofNat]
  omega

theorem toNat_adlerByte_b (r : AdlerSums) (x : Byte) :
    (adlerByte r x).b.toNat = (r.b.toNat + (adlerByte r x).a.toNat) % 65521 := by
  rw [toNat_adlerByte_a]
  simp only [adlerByte, adlerM, BitVec.toNat_ofNat]
  omega

theorem adlerByte_reduced (r : AdlerSums) (x : Byte) :
    (adlerByte r x).a.toNat ≤ 65520 ∧ (adlerByte r x).b.toNat ≤ 65520 := by
  rw [toNat_adlerByte_b, toNat_adlerByte_a]
  omega

/-- One subtraction reduces any sum of two reduced ones. -/
theorem mod_adlerM_eq_ite {n : Nat} (h : n ≤ 131040) :
    n % 65521 = if n < 65521 then n else n - 65521 := by
  split <;> omega

/-- The two halves of the output do not overlap. -/
theorem toNat_adlerOut (r : AdlerSums) : (adlerOut r).toNat = r.b.toNat * 65536 + r.a.toNat := by
  have happend : adlerOut r = r.b ++ r.a := by
    rw [adlerOut, BitVec.append_def, BitVec.shiftLeftZeroExtend_eq, BitVec.setWidth'_eq]
  have ha : r.a.toNat < 2 ^ 16 := r.a.isLt
  rw [happend, BitVec.toNat_append, ← Nat.shiftLeft_add_eq_or_of_lt ha, Nat.shiftLeft_eq]

/-! ### The Adler run (40_checksum.md R112, R113) -/

theorem adlerRun_concat (r : AdlerSums) (s : Bytes) (x : Byte) :
    adlerRun r (s ++ [x]) = adlerByte (adlerRun r s) x := adlerRun_append r s [x]

theorem adlerRun_reduced (s : Bytes) :
    (adlerRun adlerInit s).a.toNat ≤ 65520 ∧ (adlerRun adlerInit s).b.toNat ≤ 65520 := by
  cases s using List.reverseRecOn with
  | nil => decide
  | append_singleton s x =>
    rw [adlerRun_concat]
    exact adlerByte_reduced _ x

/-- Settles O39: a byte is at most 255, so each intermediate sum is within one subtraction of its residue. -/
theorem adlerSumsStayReduced : Obligations.AdlerSumsStayReduced := by
  refine ⟨fun r x ha hb => ?_, adlerRun_reduced, toNat_adlerOut⟩
  have hx : x.toNat < 256 := x.isLt
  have hred := adlerByte_reduced r x
  have hsum : r.a.toNat + x.toNat ≤ 65775 := by omega
  have hsum' : r.b.toNat + (adlerByte r x).a.toNat ≤ 131040 := by omega
  exact ⟨hsum, (toNat_adlerByte_a r x).trans (mod_adlerM_eq_ite (by omega)), hsum',
    (toNat_adlerByte_b r x).trans (mod_adlerM_eq_ite hsum'), hred⟩

/-! ### Deferring the reduction (40_checksum.md R112) -/

/-- The sum `a` after `s`, never reduced. -/
def unreducedA (s : Bytes) : Nat := 1 + (s.map BitVec.toNat).sum

/-- The sum `b` after `s`, never reduced: all the successive `a`. -/
def unreducedB (s : Bytes) : Nat := ((List.range s.length).map fun i => unreducedA (s.take (i + 1))).sum

theorem unreducedA_concat (s : Bytes) (x : Byte) : unreducedA (s ++ [x]) = unreducedA s + x.toNat := by
  simp [unreducedA, Nat.add_assoc]

theorem unreducedB_concat (s : Bytes) (x : Byte) :
    unreducedB (s ++ [x]) = unreducedB s + unreducedA (s ++ [x]) := by
  have htake : ∀ i ∈ List.range s.length,
      unreducedA ((s ++ [x]).take (i + 1)) = unreducedA (s.take (i + 1)) := fun i hi => by
    rw [List.take_append_of_le_length (List.mem_range.mp hi)]
  have hwhole : (s ++ [x]).take (s.length + 1) = s ++ [x] := List.take_of_length_le (by simp)
  simp only [unreducedB, List.length_append, List.length_singleton, List.range_succ, List.map_append,
    List.map_cons, List.map_nil, List.sum_append, List.sum_singleton, List.map_congr_left htake, hwhole]

theorem toNat_adlerRun (s : Bytes) :
    (adlerRun adlerInit s).a.toNat = unreducedA s % 65521 ∧
      (adlerRun adlerInit s).b.toNat = unreducedB s % 65521 := by
  induction s using List.reverseRecOn with
  | nil => decide
  | append_singleton s x ih =>
    obtain ⟨iha, ihb⟩ := ih
    have ha : (adlerRun adlerInit (s ++ [x])).a.toNat = unreducedA (s ++ [x]) % 65521 := by
      rw [adlerRun_concat, toNat_adlerByte_a, iha, Nat.mod_add_mod, unreducedA_concat]
    refine ⟨ha, ?_⟩
    rw [adlerRun_concat] at ha ⊢
    rw [toNat_adlerByte_b, ha, ihb, ← Nat.add_mod, unreducedB_concat]

/-- Settles O40, by induction on the input from its end. -/
theorem adlerDeferredReduction : Obligations.AdlerDeferredReduction := toNat_adlerRun

/-! ### The commands (40_checksum.md R107, R114) -/

theorem State.succeed_completedOk (s : State) (r : Word) {bs : Bytes} (h : bs.length ≤ Config.outMax) :
    State.CompletedOk s (s.succeed r bs) r bs where
  resultIs := rfl
  outIs := rfl
  outLenIs := toNat_lengthWord_of_fits h
  busy := s.complete_busy (.ok r bs)
  done := s.complete_done (.ok r bs)
  err := statusErr_statusSucceeded s.status
  fatal := statusFatal_statusSucceeded s.status
  frame := s.complete_frame (.ok r bs)

/-- A command whose pseudocode succeeds completes with just that result and output. -/
theorem exec_completedOk {i : Instr} {s : State} {r : Word} {bs : Bytes}
    (h : outcomeOf i Config.machine s.pend (s.srcBuf s.pend.length) = .ok r bs) :
    ∃ t, exec i s = .next t ∧ State.CompletedOk s t r bs :=
  ⟨s.succeed r bs, by rw [exec_eq, h, State.complete_ok],
    s.succeed_completedOk r (outcomeOf_ok_fits (s.length_srcBuf _) h)⟩

/-- Settles O6: CRC32 has no error path. -/
theorem crc32CommandGivesChecksum : Obligations.Crc32CommandGivesChecksum :=
  ⟨rfl, fun _ => exec_completedOk rfl, by decide, by decide, by decide +kernel⟩

/-- `a` is not reduced yet at the 256th byte: 1 + 255 * 256 = 65281 is below the modulus (40_checksum.md R114). -/
theorem toNat_adlerRun_256_ff : (adlerRun adlerInit (List.replicate 256 0xFF#8)).a.toNat = 1 + 255 * 256 := by
  rw [(toNat_adlerRun _).1, unreducedA, List.map_replicate, List.sum_replicate]
  rfl

/-- Settles O7: ADLER32 has no error path. -/
theorem adler32CommandGivesChecksum : Obligations.Adler32CommandGivesChecksum :=
  ⟨rfl, fun _ => exec_completedOk rfl, by decide, by decide, toNat_adlerRun_256_ff, by decide +kernel⟩

end Sys2Proof.Machine
end

section
/-! PROOFS. The Stored-DEFLATE Packer (41_stored_deflate.md): the block header, the split rule, the
packed stream and its reader, and the completion of PACK. -/

namespace Sys2Proof.Machine

/-! ### The block header (41_stored_deflate.md R133) -/

theorem not16_eq_not (len : BitVec 16) : not16 len = ~~~len := BitVec.allOnes_xor

theorem toNat_not16 (len : BitVec 16) : (not16 len).toNat = 65535 - len.toNat := by
  rw [not16_eq_not, BitVec.toNat_not]

theorem xor_not16 (len : BitVec 16) : len ^^^ not16 len = 0xFFFF#16 := by
  rw [not16, BitVec.xor_comm, BitVec.xor_assoc, BitVec.xor_self, BitVec.xor_zero]

/-- Settles O41: the five bytes by definition, NLEN the bitwise complement. -/
theorem blockHeaderBytes : Obligations.BlockHeaderBytes :=
  ⟨fun _ _ => rfl, fun len => ⟨toNat_not16 len, xor_not16 len⟩,
    by decide, by decide, by decide, by decide⟩

/-! ### The split rule (41_stored_deflate.md R132) -/

theorem blockCount_eq (n : Nat) : blockCount n = (max n 1 + 65534) / 65535 := rfl

theorem blockCount_of_le {n : Nat} (h : n ≤ 65535) : blockCount n = 1 := by
  rw [blockCount_eq]
  omega

theorem splitBlocks_of_le (raw : Bytes) (h : raw.length ≤ 65535) : splitBlocks raw = [raw] := by
  rw [splitBlocks, blockCount_of_le h]
  rfl

/-- Induction along R134's recursion: an input of one block, or a full block before the rest. -/
theorem blockInduction {motive : Bytes → Prop} (short : ∀ raw, raw.length ≤ 65535 → motive raw)
    (full : ∀ raw, 65535 < raw.length → motive (raw.drop 65535) → motive raw) (raw : Bytes) : motive raw := by
  by_cases h : raw.length ≤ 65535
  · exact short raw h
  · exact full raw (by omega) (blockInduction short full (raw.drop 65535))
  termination_by raw.length
  decreasing_by simp only [List.length_drop]; omega

theorem length_splitBlocks (raw : Bytes) : (splitBlocks raw).length = blockCount raw.length := by
  induction raw using blockInduction with
  | short raw h => rw [splitBlocks_of_le raw h, blockCount_of_le h]; rfl
  | full raw h ih => rw [splitBlocks_of_gt raw h, List.length_cons, ih, List.length_drop, blockCount_of_gt _ h]

theorem flatten_splitBlocks (raw : Bytes) : (splitBlocks raw).flatten = raw := by
  induction raw using blockInduction with
  | short raw h => rw [splitBlocks_of_le raw h, List.flatten_singleton]
  | full raw h ih => rw [splitBlocks_of_gt raw h, List.flatten_cons, ih, List.take_append_drop]

theorem length_le_of_mem_splitBlocks (raw : Bytes) : ∀ b ∈ splitBlocks raw, b.length ≤ 65535 := by
  induction raw using blockInduction with
  | short raw h => simpa [splitBlocks_of_le raw h] using h
  | full raw h ih =>
    rw [splitBlocks_of_gt raw h]
    exact List.forall_mem_cons.mpr ⟨List.length_take_le .., ih⟩

/-- The bytes of the block with `k` full blocks before it. -/
theorem getElem?_splitBlocks (raw : Bytes) {k : Nat} (hk : k < blockCount raw.length) :
    (splitBlocks raw)[k]? = some ((raw.take (min ((k + 1) * 65535) raw.length)).drop (k * 65535)) := by
  rw [← List.take_eq_take_min]
  induction raw using blockInduction generalizing k with
  | short raw h =>
    obtain rfl : k = 0 := by rw [blockCount_of_le h] at hk; omega
    simp [splitBlocks_of_le raw h, List.take_of_length_le h]
  | full raw h ih =>
    rw [splitBlocks_of_gt raw h]
    cases k with
    | zero => simp
    | succ k =>
      have hrest : k < blockCount (raw.drop 65535).length := by
        rw [blockCount_of_gt _ h] at hk
        rw [List.length_drop]
        omega
      have hsucc (m : Nat) : (m + 1) * 65535 = 65535 + m * 65535 := by omega
      rw [List.getElem?_cons_succ, ih hrest, List.take_drop, List.drop_drop, hsucc (k + 1), hsucc k]

theorem length_of_getElem?_splitBlocks {raw b : Bytes} {k : Nat} (h : (splitBlocks raw)[k]? = some b) :
    b.length = min ((k + 1) * 65535) raw.length - k * 65535 := by
  have hk : k < blockCount raw.length := by
    rw [← length_splitBlocks]
    exact (List.getElem?_eq_some_iff.mp h).1
  rw [getElem?_splitBlocks raw hk] at h
  cases h
  rw [List.length_drop, List.length_take, Nat.min_assoc, Nat.min_self]

/-- Settles O43: the blocks by induction along R134's recursion, their lengths from the bytes they carry. -/
theorem splitRuleOfBlocks : Obligations.SplitRuleOfBlocks := by
  intro raw n N
  have hbounds : 1 ≤ N ∧ n ≤ N * 65535 ∧ (N = 1 ∨ (N - 1) * 65535 < n) := blockCount_bounds n
  refine ⟨length_splitBlocks raw, fun k hk => getElem?_splitBlocks raw hk, fun k b hk hb => ?_,
    fun b hb => ?_, flatten_splitBlocks raw⟩
  · have hlen : b.length = min ((k + 1) * 65535) n - k * 65535 := length_of_getElem?_splitBlocks hb
    omega
  · have hlen : b.length = min ((N - 1 + 1) * 65535) n - (N - 1) * 65535 := length_of_getElem?_splitBlocks hb
    omega

/-! ### The blocks (41_stored_deflate.md R134) -/

/-- A block's header and its literal bytes (30_encoding.md R77). -/
def framedBlock (final : Bool) (p : Bytes) : Bytes := blockHeader final (BitVec.ofNat 16 p.length) ++ p

/-- The final flag stands on the last block alone. -/
theorem frameBlocks_concat (front : List Bytes) (last : Bytes) :
    frameBlocks (front ++ [last]) = front.flatMap (framedBlock false) ++ framedBlock true last := by
  induction front with
  | nil => rfl
  | cons p front ih =>
    rw [List.cons_append, frameBlocks_cons p (by simp), ih, List.flatMap_cons]
    exact (List.append_assoc ..).symm

/-- Settles O42: the recursion of `blocks`, and the framing of a list of blocks with its last set apart. -/
theorem blocksFollowRecursion : Obligations.BlocksFollowRecursion := by
  refine ⟨blocks_of_le, blocks_of_gt, fun raw => ?_⟩
  obtain ⟨front, last, hsplit⟩ :=
    (splitBlocks raw).eq_nil_or_concat'.resolve_left (splitInto_ne_nil _ raw)
  refine ⟨front, last, hsplit, ?_⟩
  rw [blocks, hsplit]
  exact frameBlocks_concat front last

/-! ### The packed stream (41_stored_deflate.md R138, R139) -/

theorem packLength_eq (n : Nat) : packLength n = n + 5 * ((max n 1 + 65534) / 65535) + 6 := by
  rw [packLength, blockCount_eq]

/-- Settles O44: five header bytes for each block, and the zlib header and trailer. -/
theorem packedLength : Obligations.PackedLength :=
  ⟨fun raw => (length_pack raw).trans (packLength_eq _),
    by decide, by decide, by decide, by decide, by decide⟩

/-- Settles O52: what the framer emits over a whole input, from any registers. -/
theorem framerStreamEqualsPack : Obligations.FramerStreamEqualsPack := framerRun_output

/-! ### Reading a packed stream back (41_stored_deflate.md R137, 30_encoding.md R79) -/

/-- The reader takes one framed block off the front, its flag and its bytes as they were. -/
theorem readBlock_framedBlock (final : Bool) (p rest : Bytes) (h : p.length ≤ 65535) :
    readBlock (framedBlock final p ++ rest) = some (final, p, rest) := by
  have hlen : (BitVec.ofNat 16 p.length).toNat = p.length := by
    rw [BitVec.toNat_ofNat, Nat.mod_eq_of_lt (by omega)]
  have hflag : (flagByte final = 0x00#8 ∨ flagByte final = 0x01#8) ∧ (flagByte final == 0x01#8) = final := by
    cases final <;> decide
  simp only [framedBlock, blockHeader, le16, List.cons_append, List.nil_append, readBlock, le16_join, hlen,
    readBytes_append, hflag, and_self, if_true]

/-- The reader stops behind the final block, given fuel for each block. -/
theorem readBlocks_blocks (raw rest : Bytes) {fuel : Nat} (h : blockCount raw.length ≤ fuel) :
    readBlocks fuel (blocks raw ++ rest) = some (raw, rest) := by
  induction raw using blockInduction generalizing fuel with
  | short raw hle =>
    obtain ⟨fuel, rfl⟩ := Nat.exists_eq_add_of_le' ((blockCount_bounds _).1.trans h)
    rw [blocks_of_le raw hle, readBlocks, ← framedBlock, readBlock_framedBlock true raw rest hle]
  | full raw hgt ih =>
    obtain ⟨fuel, rfl⟩ := Nat.exists_eq_add_of_le' ((blockCount_bounds _).1.trans h)
    have htake : (raw.take 65535).length = 65535 := List.length_take_of_le hgt.le
    have hfirst : blocks raw ++ rest =
        framedBlock false (raw.take 65535) ++ (blocks (raw.drop 65535) ++ rest) := by
      rw [blocks_of_gt raw hgt, framedBlock, htake, List.append_assoc]
      rfl
    have hfuel : blockCount (raw.drop 65535).length ≤ fuel := by
      rw [blockCount_of_gt _ hgt] at h
      rw [List.length_drop]
      omega
    rw [hfirst, readBlocks, readBlock_framedBlock false _ _ htake.le]
    simp only [ih hfuel, List.take_append_drop]

theorem readZlib_pack (raw : Bytes) : readZlib (pack raw) = some raw := by
  have hfuel : blockCount raw.length ≤ (blocks raw ++ be32 (adler32 raw)).length := by
    rw [List.length_append, length_blocks]
    omega
  rw [pack, List.append_assoc]
  simp only [zlibHeader, List.cons_append, List.nil_append, readZlib, and_self, if_true,
    readBlocks_blocks raw _ hfuel]

/-- Settles O45, by induction along R134's recursion: each block is read back and leaves the rest. -/
theorem packedStreamReadsBack : Obligations.PackedStreamReadsBack := readZlib_pack

/-! ### The command (41_stored_deflate.md R140, R141) -/

/-- The defensive check of R140 never fires. -/
theorem blockTooLong_eq_false (raw : Bytes) : blockTooLong raw = false := by
  rw [blockTooLong, List.any_eq_false]
  intro b hb
  rw [decide_eq_true_iff]
  exact (length_le_of_mem_splitBlocks raw b hb).not_gt

theorem packLength_fits_iff (n : Nat) : packLength n ≤ 4294967295 ↔ n ≤ 4294639624 := by
  rw [packLength_eq]
  omega

theorem packOutcome_of_fits (c : Config) {p : Pend} (input : Bytes) (h : packLength p.length ≤ 4294967295) :
    packOutcome c p input = .ok 0 (pack input) := by
  rw [packOutcome, (tooLong_eq_false _).mpr h, blockTooLong_eq_false]
  rfl

theorem packOutcome_of_tooLong (c : Config) {p : Pend} (input : Bytes) (h : 4294967295 < packLength p.length) :
    packOutcome c p input = .err .lengthOverflow :=
  if_pos ((tooLong_eq_true _).mpr h)

/-- A command whose pseudocode fails completes with just that error. -/
theorem exec_completedErr {i : Instr} {s : State} {e : CoreError}
    (h : outcomeOf i Config.machine s.pend (s.srcBuf s.pend.length) = .err e) :
    ∃ t, exec i s = .next t ∧ State.CompletedErr s t e :=
  ⟨s.raise e, by rw [exec_eq, h, State.complete_err], s.raise_completedErr e⟩

/-- Settles O8: the overflow check alone decides, and it is made on the length of the stream. -/
theorem packCommandGivesStream : Obligations.PackCommandGivesStream := by
  refine ⟨rfl, fun s => ⟨fun h => ?_, fun h => ?_⟩, fun n => packLength_eq n ▸ packLength_fits_iff n,
    by decide, by decide, by decide⟩
  · exact exec_completedOk (packOutcome_of_fits Config.machine _ ((packLength_fits_iff _).mpr h))
  · exact exec_completedErr (packOutcome_of_tooLong Config.machine _
      (lt_of_not_ge fun hfits => ((packLength_fits_iff _).mp hfits).not_gt h))

end Sys2Proof.Machine
end

section
/-! PROOFS. The PNG Chunk Assembler (42_chunk.md): the fields of a chunk and its reader, the serialiser,
and the completions of CHUNK and ASSEMBLE. -/

namespace Sys2Proof.Machine

/-! ### The serialiser (42_chunk.md R159) -/

/-- Settles O54: what the serialiser emits over a whole payload, from any registers. -/
theorem serialiserStreamEqualsChunk : Obligations.SerialiserStreamEqualsChunk := serialiserRun_output

/-! ### The fields of a chunk (42_chunk.md R152) -/

theorem take_four_chunk (t p : Bytes) : (chunk t p).take 4 = be32 (lengthWord p) := by
  rw [chunk, List.append_assoc, List.append_assoc, List.take_left' (length_be32 _)]

theorem drop_four_chunk (t p : Bytes) : (chunk t p).drop 4 = t ++ (p ++ be32 (crc32 (t ++ p))) := by
  rw [chunk, List.append_assoc, List.append_assoc, List.drop_left' (length_be32 _)]

section Fields

variable {t : Bytes} (p : Bytes) (ht : t.length = 4)

include ht

theorem drop_eight_chunk : (chunk t p).drop 8 = p ++ be32 (crc32 (t ++ p)) := by
  rw [← List.drop_drop (i := 4) (j := 4), drop_four_chunk, List.drop_left' ht]

/-- The CRC field stands behind the payload. -/
theorem drop_payload_chunk : (chunk t p).drop (8 + p.length) = be32 (crc32 (t ++ p)) := by
  rw [← List.drop_drop, drop_eight_chunk p ht, List.drop_left' rfl]

/-- The bytes between the length field and the CRC field are those the CRC covers. -/
theorem take_drop_four_chunk : ((chunk t p).take (8 + p.length)).drop 4 = t ++ p := by
  have hlen : (t ++ p).length = 8 + p.length - 4 := by
    rw [List.length_append, ht]
    omega
  rw [List.drop_take, drop_four_chunk, ← List.append_assoc, List.take_left' hlen]

/-- The reader takes one chunk off the front (30_encoding.md R72). -/
theorem readChunk_chunk (hp : p.length ≤ 4294967295) (rest : Bytes) :
    readChunk (chunk t p ++ rest) = some (t, p, rest) := by
  have htag (s : Bytes) : readBytes 4 (t ++ s) = some (t, s) := ht ▸ readBytes_append t s
  have hn : (lengthWord p).toNat = p.length := toNat_lengthWord p (Nat.lt_succ_of_le hp)
  simp only [chunk, List.append_assoc, readChunk, readBe32_be32, htag, hn, readBytes_append, if_true]

end Fields

/-- Settles O46: each field by what stands before it, and the chunk read back. -/
theorem chunkFraming : Obligations.ChunkFraming := by
  intro t p ht hp
  refine ⟨take_four_chunk t p, ?_, ?_, ?_, length_chunk p ht, readChunk_chunk p ht hp⟩
  · rw [drop_four_chunk, List.take_left' ht]
  · rw [drop_eight_chunk p ht, List.take_left' rfl]
  · rw [drop_payload_chunk p ht, take_drop_four_chunk p ht]

/-! ### CHUNK (42_chunk.md R160) -/

theorem tooLong_chunkLength_iff (n : Nat) : tooLong (chunkLength n) = true ↔ 4294967283 < n := by
  rw [tooLong_eq_true, chunkLength]
  omega

theorem chunkOutcome_of_fits (c : Config) {p : Pend} (input : Bytes) (h : p.length ≤ 4294967283) :
    chunkOutcome c p input = .ok 0 (chunk p.tag input) :=
  if_neg (mt (tooLong_chunkLength_iff _).mp h.not_gt)

theorem chunkOutcome_of_tooLong (c : Config) {p : Pend} (input : Bytes) (h : 4294967283 < p.length) :
    chunkOutcome c p input = .err .lengthOverflow :=
  if_pos ((tooLong_chunkLength_iff _).mpr h)

/-- The chunk of the latched tag and the input, its length field the latched length. -/
theorem chunk_tag_srcBuf (s : State) :
    chunk s.pend.tag (s.srcBuf s.pend.length) =
      be32 s.pend.n ++ be32 s.pend.t ++ s.srcBuf s.pend.n.toNat ++
        be32 (crc32 (be32 s.pend.t ++ s.srcBuf s.pend.n.toNat)) := by
  rw [chunk, Pend.tag_eq, Pend.length_eq, lengthWord_eq (s.length_srcBuf _)]

/-- Settles O9: the overflow check alone decides; the tag is not checked. -/
theorem chunkCommandGivesChunk : Obligations.ChunkCommandGivesChunk := by
  refine ⟨rfl, fun s => ⟨fun h => ?_, fun h => ?_⟩, by decide +kernel, by decide +kernel⟩
  · rw [← chunk_tag_srcBuf]
    exact exec_completedOk (chunkOutcome_of_fits Config.machine _ h)
  · exact exec_completedErr (chunkOutcome_of_tooLong Config.machine _ h)

/-! ### ASSEMBLE (42_chunk.md R161) -/

/-- At the default MAX_DIM no register value is above it (60_exceptions.md R207). -/
theorem invalidDims_machine_iff (p : Pend) :
    invalidDims Config.machine p.width p.height = true ↔ p.w = 0 ∨ p.h = 0 := by
  have hw : ¬ Config.machine.maxDim < p.width := (Nat.le_of_lt_succ p.w.isLt).not_gt
  have hh : ¬ Config.machine.maxDim < p.height := (Nat.le_of_lt_succ p.h.isLt).not_gt
  rw [invalidDims_eq_true, BitVec.toNat_eq, BitVec.toNat_eq]
  simp only [hw, hh, or_false]
  rfl

theorem not_invalidDims_machine {p : Pend} (hw : p.w ≠ 0) (hh : p.h ≠ 0) :
    ¬ invalidDims Config.machine p.width p.height = true :=
  mt (invalidDims_machine_iff p).mp (not_or.mpr ⟨hw, hh⟩)

theorem tooLong_assembleLength_iff (n : Nat) : tooLong (assembleLength n) = true ↔ 4294967238 < n := by
  rw [tooLong_eq_true, assembleLength]
  omega

theorem assembleOutcome_of_invalidDims {c : Config} {p : Pend} (input : Bytes)
    (h : invalidDims c p.width p.height = true) : assembleOutcome c p input = .err .invalidDimensions :=
  if_pos h

theorem assembleOutcome_of_tooLong {c : Config} {p : Pend} (input : Bytes)
    (hdims : ¬ invalidDims c p.width p.height = true) (h : 4294967238 < p.length) :
    assembleOutcome c p input = .err .lengthOverflow :=
  (if_neg hdims).trans (if_pos ((tooLong_assembleLength_iff _).mpr h))

theorem assembleOutcome_of_fits {c : Config} {p : Pend} (input : Bytes)
    (hdims : ¬ invalidDims c p.width p.height = true) (h : p.length ≤ 4294967238) :
    assembleOutcome c p input = .ok 0 (assemble (ihdrPayload p.w p.h) input) :=
  (if_neg hdims).trans (if_neg (mt (tooLong_assembleLength_iff _).mp h.not_gt))

/-- Settles O10: the dimensions are checked first, then the length of the file. -/
theorem assembleCommandGivesFile : Obligations.AssembleCommandGivesFile := by
  refine ⟨rfl, fun s => ⟨fun h => ?_, fun hw hh h => ?_, fun hw hh h => ?_⟩,
    by decide +kernel, by decide +kernel, rfl⟩
  · exact exec_completedErr (assembleOutcome_of_invalidDims _ ((invalidDims_machine_iff _).mpr h))
  · exact exec_completedErr (assembleOutcome_of_tooLong _ (not_invalidDims_machine hw hh) h)
  · exact exec_completedOk (assembleOutcome_of_fits _ (not_invalidDims_machine hw hh) h)

end Sys2Proof.Machine
end

section
/-! PROOFS. The Raster Filter Stage (43_filter.md): the scanline buffer byte by byte, the prefixer, and
the completion of FILTER. -/

namespace Sys2Proof.Machine

/-! ### The scanline buffer (43_filter.md R173, R174) -/

/-- The scanlines from place `i` of row `r` on: the filter byte, then that row's pixel bytes. -/
theorem getElem?_scanlines {rows rowBytes : Nat} {px : Bytes} (hlen : px.length = rows * rowBytes) {r i : Nat}
    (hr : r < rows) (hi : i < 1 + rowBytes) :
    (scanlines rows rowBytes px)[r * (1 + rowBytes) + i]? =
      (filterByte :: (px.drop (r * rowBytes)).take rowBytes)[i]? := by
  induction rows generalizing px r with
  | zero => exact absurd hr (Nat.not_lt_zero r)
  | succ rows ih =>
    have hpx : px.length = rows * rowBytes + rowBytes := by rw [hlen, Nat.succ_mul]
    have hrow : (filterByte :: px.take rowBytes).length = 1 + rowBytes := by
      rw [List.length_cons, List.length_take_of_le (by omega), Nat.add_comm]
    rw [scanlines]
    cases r with
    | zero =>
      rw [Nat.zero_mul, Nat.zero_mul, Nat.zero_add, List.drop_zero, List.getElem?_append_left (by omega)]
    | succ r =>
      have hdrop : (px.drop rowBytes).length = rows * rowBytes := by rw [List.length_drop]; omega
      have hplace : (r + 1) * (1 + rowBytes) + i - (1 + rowBytes) = r * (1 + rowBytes) + i := by
        rw [Nat.succ_mul]; omega
      rw [List.getElem?_append_right (by rw [hrow, Nat.succ_mul]; omega), hrow, hplace,
        ih hdrop (Nat.lt_of_succ_lt_succ hr), List.drop_drop, Nat.succ_mul, Nat.add_comm rowBytes]

section Image

variable {px : Bytes} {w h r : Nat} (hlen : px.length = w * h * 4) (hr : r < h)

include hlen hr

/-- Each row starts with the filter byte (43_filter.md R171). -/
theorem getElem?_filterImage_rowStart : (filterImage px w h)[r * (1 + 4 * w)]? = some filterByte :=
  getElem?_scanlines (i := 0) (by rw [hlen]; ring) hr (by omega)

/-- Behind it stand the row's pixel bytes, unchanged and in order (43_filter.md R171). -/
theorem getElem?_filterImage_pixel {i : Nat} (hi : i < 4 * w) :
    (filterImage px w h)[r * (1 + 4 * w) + (i + 1)]? = px[r * (4 * w) + i]? := by
  rw [filterImage, getElem?_scanlines (by rw [hlen]; ring) hr (by omega), List.getElem?_cons_succ,
    List.getElem?_take_of_lt hi, List.getElem?_drop]

end Image

/-- Settles O47: an index is its quotient and remainder, by `1 + 4w` in the buffer and by `4w` in the pixels. -/
theorem filterIndexMap : Obligations.FilterIndexMap := by
  intro px w h hw hh hlen
  refine ⟨fun k hk => ?_, fun j hj => ?_⟩
  · have hr : k / (1 + 4 * w) < h := Nat.div_lt_of_lt_mul (by rwa [Nat.mul_comm])
    have hsplit : k / (1 + 4 * w) * (1 + 4 * w) + k % (1 + 4 * w) = k := Nat.div_add_mod' ..
    split
    next hi =>
      rw [hi, Nat.add_zero] at hsplit
      rw [← hsplit, getElem?_filterImage_rowStart hlen hr, filterByte]
    next hi =>
      have hlt : k % (1 + 4 * w) < 1 + 4 * w := Nat.mod_lt _ (by omega)
      rw [← getElem?_filterImage_pixel hlen hr (by omega), Nat.sub_add_cancel (by omega), hsplit]
  · have hr : j / (4 * w) < h := Nat.div_lt_of_lt_mul hj
    have hi : j % (4 * w) < 4 * w := Nat.mod_lt _ (by omega)
    have hsplit : j / (4 * w) * (4 * w) + j % (4 * w) = j := Nat.div_add_mod' ..
    have hplace : j + j / (4 * w) + 1 = j / (4 * w) * (1 + 4 * w) + (j % (4 * w) + 1) := by
      rw [Nat.mul_add, Nat.mul_one]
      omega
    rw [hplace, getElem?_filterImage_pixel hlen hr hi, hsplit]

/-- Settles O48: `h` rows of a filter byte and `4w` pixel bytes, so five bytes at least for one pixel. -/
theorem filterLength : Obligations.FilterLength := by
  intro px w h hw hh hlen
  have hL : (filterImage px w h).length = h * (1 + 4 * w) := length_filterImage px w h hlen
  refine ⟨hL, ?_⟩
  calc 5 = 1 * 5 := rfl
    _ ≤ h * (1 + 4 * w) := Nat.mul_le_mul hh (by omega)
    _ = (filterImage px w h).length := hL.symm

/-! ### The prefixer (43_filter.md R176) -/

/-- Settles O53: what the prefixer emits over a whole pixel buffer, from any registers. -/
theorem prefixerStreamEqualsFilter : Obligations.PrefixerStreamEqualsFilter := fun px w h u =>
  prefixerRun_output w h px u

/-! ### FILTER (43_filter.md R175) -/

theorem filterOutcome_of_invalidDims {c : Config} {p : Pend} (input : Bytes)
    (h : invalidDims c p.width p.height = true) : filterOutcome c p input = .err .invalidDimensions :=
  if_pos h

section Checks

variable {c : Config} {p : Pend} (input : Bytes) (hdims : ¬ invalidDims c p.width p.height = true)

include hdims

theorem filterOutcome_of_lengthMismatch (h : p.length ≠ p.width * p.height * 4) :
    filterOutcome c p input = .err .bufferLengthMismatch :=
  (if_neg hdims).trans (if_pos ((lengthMismatch_eq_true _ _ _).mpr h))

variable (hlen : p.length = p.width * p.height * 4)

include hlen

/-- Once the first two checks pass, the length of the scanline buffer alone decides. -/
theorem filterOutcome_of_checked :
    filterOutcome c p input =
      if tooLong (scanlineLength p.width p.height) then .err .lengthOverflow
      else .ok 0 (filterImage input p.width p.height) :=
  (if_neg hdims).trans (if_neg (mt (lengthMismatch_eq_true _ _ _).mp (not_not_intro hlen)))

theorem filterOutcome_of_tooLong (h : 4294967295 < scanlineLength p.width p.height) :
    filterOutcome c p input = .err .lengthOverflow :=
  (filterOutcome_of_checked input hdims hlen).trans (if_pos ((tooLong_eq_true _).mpr h))

theorem filterOutcome_of_fits (h : scanlineLength p.width p.height ≤ 4294967295) :
    filterOutcome c p input = .ok 0 (filterImage input p.width p.height) :=
  (filterOutcome_of_checked input hdims hlen).trans (if_neg (mt (tooLong_eq_true _).mp h.not_gt))

end Checks

/-- Settles O11: R175's checks in their order, the product and the length exact. -/
theorem filterCommandGivesScanlines : Obligations.FilterCommandGivesScanlines := by
  refine ⟨rfl, fun s => ⟨fun h => ?_, fun hw hh h => ?_, fun hw hh hlen h => ?_, fun hw hh hlen h => ?_⟩,
    by decide⟩
  · exact exec_completedErr (filterOutcome_of_invalidDims _ ((invalidDims_machine_iff _).mpr h))
  · exact exec_completedErr (filterOutcome_of_lengthMismatch _ (not_invalidDims_machine hw hh) h)
  · exact exec_completedErr (filterOutcome_of_tooLong _ (not_invalidDims_machine hw hh) hlen h)
  · exact exec_completedOk (filterOutcome_of_fits _ (not_invalidDims_machine hw hh) hlen h)

end Sys2Proof.Machine
end

section
/-! PROOFS. The whole pipeline (44_encode.md): the PNG byte by byte, the PNG read back, the completion of
ENCODE, and the unit commands that give the same output. -/

namespace Sys2Proof.Machine

/-! ### Reading the PNG back (44_encode.md R186, 30_encoding.md R79) -/

/-- The reader strips each row's filter byte and joins the rows (30_encoding.md R78). -/
theorem readScanlines_scanlines (rows rowBytes : Nat) (px : Bytes) (hlen : px.length = rows * rowBytes) :
    readScanlines rows rowBytes (scanlines rows rowBytes px) = some px := by
  induction rows generalizing px with
  | zero =>
    obtain rfl : px = [] := List.length_eq_zero_iff.mp (hlen.trans (Nat.zero_mul _))
    rfl
  | succ rows ih =>
    have hpx : px.length = rows * rowBytes + rowBytes := by rw [hlen, Nat.succ_mul]
    have hrow : (px.take rowBytes).length = rowBytes := List.length_take_of_le (by omega)
    have hrest : (px.drop rowBytes).length = rows * rowBytes := by rw [List.length_drop]; omega
    have hread (s : Bytes) : readBytes rowBytes (px.take rowBytes ++ s) = some (px.take rowBytes, s) := by
      simpa only [hrow] using readBytes_append (px.take rowBytes) s
    simp only [scanlines, List.cons_append, readScanlines, if_true, hread, ih _ hrest, List.take_append_drop]

theorem readScanlines_filterImage (px : Bytes) (w h : Nat) (hlen : px.length = w * h * 4) :
    readScanlines h (4 * w) (filterImage px w h) = some px :=
  readScanlines_scanlines h (4 * w) px (by rw [hlen]; ring)

theorem readIhdr_ihdrPayload (w h : Word) : readIhdr (ihdrPayload w h) = some (w, h) := by
  simp only [readIhdr, ihdrPayload, List.append_assoc, readBe32_be32, if_true]

theorem readTagged_chunk {t : Bytes} (p rest : Bytes) (ht : t.length = 4) (hp : p.length ≤ 4294967295) :
    readTagged t (chunk t p ++ rest) = some (p, rest) := by
  simp only [readTagged, readChunk_chunk p ht hp, if_true]

/-- What stands behind the signature of `assemble ih id` (42_chunk.md R156). -/
theorem readImageChunks_chunks {ih id : Bytes} (hih : ih.length ≤ 4294967295) (hid : id.length ≤ 4294967295) :
    readImageChunks (chunk tagIHDR ih ++ (chunk tagIDAT id ++ chunk tagIEND [])) = some (ih, id) := by
  simp only [readImageChunks, readTagged_chunk ih _ length_tagIHDR hih,
    readTagged_chunk id _ length_tagIDAT hid, if_true]

/-- The reader finds the payloads in an assembled file, and in them the dimensions and the pixels. -/
theorem readPng_assemble {id raw px : Bytes} (w h : Word) (hid : id.length ≤ 4294967295)
    (hraw : readZlib id = some raw) (hpx : readScanlines h.toNat (4 * w.toNat) raw = some px) :
    readPng (assemble (ihdrPayload w h) id) = some (w, h, px) := by
  have hsig (s : Bytes) : readBytes 8 (signature ++ s) = some (signature, s) := readBytes_append signature s
  have hih : (ihdrPayload w h).length ≤ 4294967295 := by rw [length_ihdrPayload]; omega
  simp only [readPng, assemble, List.append_assoc, hsig, if_true, readImageChunks_chunks hih hid,
    readIhdr_ihdrPayload, hraw, hpx]

/-- The 57 bytes around the IDAT payload (42_chunk.md R156). -/
theorem length_encodeImage_eq_pack (px : Bytes) (w h : Word) :
    (encodeImage px w h).length = 57 + (pack (filterImage px w.toNat h.toNat)).length :=
  length_assemble _ (length_ihdrPayload w h)

/-- Settles O50: the three chunks, the zlib stream and the scanlines are each read back in turn. -/
theorem encodedImageReadsBack : Obligations.EncodedImageReadsBack := by
  intro px w h _ _ hlen hfit
  have hid : (pack (filterImage px w.toNat h.toNat)).length ≤ 4294967295 := by
    rw [← length_encodeImage px w h hlen, length_encodeImage_eq_pack] at hfit
    omega
  exact readPng_assemble w h hid (readZlib_pack _) (readScanlines_filterImage px _ _ hlen)

/-! ### The PNG byte by byte (44_encode.md R181) -/

theorem chunk_tagIEND_nil : chunk tagIEND [] =
    [0x00#8, 0x00#8, 0x00#8, 0x00#8, 0x49#8, 0x45#8, 0x4E#8, 0x44#8, 0xAE#8, 0x42#8, 0x60#8, 0x82#8] := by
  decide +kernel

theorem chunk_tagIHDR_ihdrPayload (w h : Word) : chunk tagIHDR (ihdrPayload w h) =
    [0x00#8, 0x00#8, 0x00#8, 0x0D#8] ++ (tagIHDR ++ ihdrPayload w h) ++
      be32 (crc32 (tagIHDR ++ ihdrPayload w h)) := by
  rw [chunk, lengthWord, length_ihdrPayload, List.append_assoc _ tagIHDR]
  rfl

theorem scanlineLength_pos (w : Nat) {h : Nat} (hh : 1 ≤ h) : 1 ≤ scanlineLength w h :=
  Nat.mul_pos hh (by omega)

/-- With a byte to pack, R132's count needs no case for the empty input. -/
theorem blockCount_of_pos {n : Nat} (h : 1 ≤ n) : blockCount n = (n + 65534) / 65535 := by
  rw [blockCount_eq, Nat.max_eq_left h]

/-- Settles O49: the parts by definition, the lengths from those of the blocks and of the whole file. -/
theorem encodedImageLayout : Obligations.EncodedImageLayout := by
  intro px w h hw hh hlen L N raw ihdr idat
  have hraw : raw.length = L := length_filterImage px w.toNat h.toNat hlen
  have hrows : 1 ≤ h.toNat := Nat.pos_of_ne_zero (BitVec.toNat_ne.mp hh)
  have hN : blockCount L = N := blockCount_of_pos (scanlineLength_pos w.toNat hrows)
  have hpack : lengthWord (pack raw) = BitVec.ofNat 32 (L + 5 * N + 6) := by
    rw [lengthWord, length_pack, hraw, packLength, hN]
  have hihdr : tagIHDR ++ ihdrPayload w h = ihdr := by
    simp only [ihdr, tagIHDR, ihdrPayload, List.append_assoc]
  have hidat : tagIDAT ++ pack raw = idat := by
    simp only [idat, tagIDAT, pack, zlibHeader, List.append_assoc]
  refine ⟨?_, hraw, ?_, ?_⟩
  · rw [encodeImage, assemble, chunk_tagIHDR_ihdrPayload, chunk_tagIEND_nil, hihdr, chunk,
      List.append_assoc _ tagIDAT, hpack, hidat]
    simp only [signature, List.append_assoc]
  · rw [length_blocks, hraw, hN]
  · rw [length_encodeImage px w h hlen, ← hN]
    rfl

/-! ### ENCODE (44_encode.md R184) -/

/-- The greatest scanline buffer whose PNG fits (44_encode.md R183). -/
theorem encodeLength_fits_iff (w h : Nat) :
    encodeLength w h ≤ 4294967295 ↔ scanlineLength w h ≤ 4294639572 := by
  rw [encodeLength, blockCount_eq]
  omega

theorem encodeOutcome_of_invalidDims {c : Config} {p : Pend} (input : Bytes)
    (h : invalidDims c p.width p.height = true) : encodeOutcome c p input = .err .invalidDimensions :=
  if_pos h

section Checks

variable {c : Config} {p : Pend} (input : Bytes) (hdims : ¬ invalidDims c p.width p.height = true)

include hdims

theorem encodeOutcome_of_lengthMismatch (h : p.length ≠ p.width * p.height * 4) :
    encodeOutcome c p input = .err .bufferLengthMismatch :=
  (if_neg hdims).trans (if_pos ((lengthMismatch_eq_true _ _ _).mpr h))

variable (hlen : p.length = p.width * p.height * 4)

include hlen

/-- Once the first two checks pass, the length of the file alone decides: the packer's check never fires. -/
theorem encodeOutcome_of_checked :
    encodeOutcome c p input =
      if tooLong (encodeLength p.width p.height) then .err .lengthOverflow
      else .ok 0 (encodeImage input p.w p.h) := by
  rw [encodeOutcome, if_neg hdims, if_neg (mt (lengthMismatch_eq_true _ _ _).mp (not_not_intro hlen)),
    blockTooLong_eq_false]
  rfl

theorem encodeOutcome_of_tooLong (h : 4294639572 < scanlineLength p.width p.height) :
    encodeOutcome c p input = .err .lengthOverflow :=
  (encodeOutcome_of_checked input hdims hlen).trans
    (if_pos ((tooLong_eq_true _).mpr (lt_of_not_ge (mt (encodeLength_fits_iff _ _).mp h.not_ge))))

theorem encodeOutcome_of_fits (h : scanlineLength p.width p.height ≤ 4294639572) :
    encodeOutcome c p input = .ok 0 (encodeImage input p.w p.h) :=
  (encodeOutcome_of_checked input hdims hlen).trans
    (if_neg (mt (tooLong_eq_true _).mp ((encodeLength_fits_iff _ _).mpr h).not_gt))

end Checks

/-- Settles O12: R184's checks in their order, the overflow check made on the length of the file. -/
theorem encodeCommandGivesImage : Obligations.EncodeCommandGivesImage := by
  refine ⟨rfl, fun s => ⟨fun h => ?_, fun hw hh h => ?_, fun hw hh hlen h => ?_, fun hw hh hlen h => ?_⟩,
    fun L hL => ?_, by decide +kernel, by decide +kernel, rfl⟩
  · exact exec_completedErr (encodeOutcome_of_invalidDims _ ((invalidDims_machine_iff _).mpr h))
  · exact exec_completedErr (encodeOutcome_of_lengthMismatch _ (not_invalidDims_machine hw hh) h)
  · exact exec_completedErr (encodeOutcome_of_tooLong _ (not_invalidDims_machine hw hh) hlen h)
  · exact exec_completedOk (encodeOutcome_of_fits _ (not_invalidDims_machine hw hh) hlen h)
  · omega

/-! ### The unit commands in turn (44_encode.md R185) -/

theorem not_invalidDims_of_encodeOutcome_ok {c : Config} {p : Pend} {input bs : Bytes} {r : Word}
    (h : encodeOutcome c p input = .ok r bs) : ¬ invalidDims c p.width p.height = true := by
  intro hdims
  rw [encodeOutcome_of_invalidDims input hdims] at h
  cases h

/-- Settles O51: each output is shorter than the next, and ENCODE's own check bounds the last. -/
theorem encodeEqualsUnitCommands : Obligations.EncodeEqualsUnitCommands := by
  intro c p px png hlen hok
  have hdims := not_invalidDims_of_encodeOutcome_ok hok
  obtain ⟨-, -, hn, hfit, -, rfl⟩ := encodeOutcome_ok hok
  have hpx := hlen.trans hn
  let rows := filterImage px p.w.toNat p.h.toNat
  have hrows : rows.length = scanlineLength p.w.toNat p.h.toNat := length_filterImage px _ _ hpx
  have hstream : (pack rows).length = rows.length + 5 * blockCount rows.length + 6 := length_pack rows
  have hpng : (encodeImage px p.w p.h).length = 57 + (pack rows).length := length_encodeImage_eq_pack px p.w p.h
  rw [← length_encodeImage px p.w p.h hpx] at hfit
  have hscan : scanlineLength p.w.toNat p.h.toNat ≤ 4294967295 := by omega
  have hn_rows : (lengthWord rows).toNat = rows.length := toNat_lengthWord rows (by omega)
  have hn_stream : (lengthWord (pack rows)).toNat = (pack rows).length := toNat_lengthWord _ (by omega)
  refine ⟨rows, pack rows, filterOutcome_of_fits px hdims hn hscan, packOutcome_of_fits c rows ?_,
    assembleOutcome_of_fits (p := { p with n := lengthWord (pack rows) }) _ hdims ?_, by omega, by omega⟩
  · rw [Pend.length_eq, hn_rows, ← length_pack]
    omega
  · rw [Pend.length_eq, hn_stream]
    omega

end Sys2Proof.Machine
end

section
/-! PROOFS. The errors of the commands as one function of the parameters and PEND, in the order of
60_exceptions.md R213, and which operands raise each (R206 to R213). -/

namespace Sys2Proof.Machine

/-! ### The first error that applies (60_exceptions.md R213) -/

/-- The commands that check the dimensions (60_exceptions.md R207). -/
@[simp] def checksDims : Instr → Bool
  | .assemble | .filter | .encode => true
  | .crc32 | .adler32 | .pack | .chunk => false

/-- The commands that check the length of the pixel buffer (60_exceptions.md R208). -/
@[simp] def checksPixels : Instr → Bool
  | .filter | .encode => true
  | .crc32 | .adler32 | .pack | .chunk | .assemble => false

/-- The length of the command's output, computed from its operands (60_exceptions.md R211). -/
@[simp] abbrev outputLength (p : Pend) : Instr → Nat
  | .crc32 | .adler32 => 0
  | .pack => packLength p.length
  | .chunk => chunkLength p.length
  | .assemble => assembleLength p.length
  | .filter => scanlineLength p.width p.height
  | .encode => encodeLength p.width p.height

/-- The first error that applies, decided by the parameters and PEND (`error?_outcomeOf`). -/
def operandError (i : Instr) (c : Config) (p : Pend) : Option CoreError :=
  if checksDims i && invalidDims c p.width p.height then some .invalidDimensions
  else if checksPixels i && lengthMismatch p.width p.height p.length then some .bufferLengthMismatch
  else if tooLong (outputLength p i) then some .lengthOverflow
  else none

/-- The error of an outcome, where there is one. -/
def CmdOutcome.error? : CmdOutcome → Option CoreError
  | .ok _ _ => none
  | .err e => some e

@[simp] theorem CmdOutcome.error?_ok (r : Word) (bs : Bytes) : (ok r bs).error? = none := rfl

@[simp] theorem CmdOutcome.error?_err (e : CoreError) : (err e).error? = some e := rfl

theorem CmdOutcome.error?_eq_some {o : CmdOutcome} {e : CoreError} : o.error? = some e ↔ o = .err e := by
  cases o <;> simp

/-- No error depends on the input: the packer's own check, the only one made on it, never fires. -/
theorem error?_outcomeOf (i : Instr) (c : Config) (p : Pend) (input : Bytes) :
    (outcomeOf i c p input).error? = operandError i c p := by
  cases i with
  | crc32 | adler32 => rfl
  | pack => simp [outcomeOf, packOutcome, blockTooLong_eq_false, operandError, apply_ite CmdOutcome.error?]
  | chunk => simp [outcomeOf, chunkOutcome, operandError, apply_ite CmdOutcome.error?]
  | assemble => simp [outcomeOf, assembleOutcome, operandError, apply_ite CmdOutcome.error?]
  | filter => simp [outcomeOf, filterOutcome, operandError, apply_ite CmdOutcome.error?]
  | encode => simp [outcomeOf, encodeOutcome, blockTooLong_eq_false, operandError, apply_ite CmdOutcome.error?]

theorem outcomeOf_eq_err_iff {i : Instr} {c : Config} {p : Pend} {input : Bytes} {e : CoreError} :
    outcomeOf i c p input = .err e ↔ operandError i c p = some e := by
  rw [← CmdOutcome.error?_eq_some, error?_outcomeOf]

/-! ### Which operands raise which error -/

section Errors

variable {i : Instr} {c : Config} {p : Pend}

theorem operandError_eq_invalidDimensions_iff :
    operandError i c p = some .invalidDimensions ↔
      checksDims i = true ∧ invalidDims c p.width p.height = true := by
  unfold operandError
  split_ifs <;> simp_all

theorem operandError_eq_bufferLengthMismatch_iff :
    operandError i c p = some .bufferLengthMismatch ↔
      ¬ (checksDims i = true ∧ invalidDims c p.width p.height = true) ∧
        checksPixels i = true ∧ lengthMismatch p.width p.height p.length = true := by
  unfold operandError
  split_ifs <;> simp_all

theorem operandError_eq_lengthOverflow_iff :
    operandError i c p = some .lengthOverflow ↔
      ¬ (checksDims i = true ∧ invalidDims c p.width p.height = true) ∧
        ¬ (checksPixels i = true ∧ lengthMismatch p.width p.height p.length = true) ∧
          tooLong (outputLength p i) = true := by
  unfold operandError
  split_ifs <;> simp_all

theorem operandError_ne_internalInvariantViolation :
    operandError i c p ≠ some .internalInvariantViolation := by
  unfold operandError
  split_ifs <;> simp

end Errors

theorem checksDims_iff (i : Instr) : checksDims i = true ↔ i = .assemble ∨ i = .filter ∨ i = .encode := by
  cases i <;> decide

theorem checksPixels_iff (i : Instr) : checksPixels i = true ↔ i = .filter ∨ i = .encode := by
  cases i <;> decide

/-- The pixels' length is checked only where the dimensions are. -/
theorem checksDims_of_checksPixels {i : Instr} (h : checksPixels i = true) : checksDims i = true :=
  (checksDims_iff i).mpr (.inr ((checksPixels_iff i).mp h))

/-! ### The obligations on the errors -/

/-- Settles O13: the dimensions are checked first, by three commands, and a 32-bit register is never above
the default MAX_DIM. -/
theorem invalidDimensionsExactlyWhen : Obligations.InvalidDimensionsExactlyWhen := by
  refine ⟨fun i c p input => ?_, fun p => ⟨?_, ?_⟩⟩
  · rw [outcomeOf_eq_err_iff, operandError_eq_invalidDimensions_iff, checksDims_iff, invalidDims_eq_true]
    rfl
  · exact (Nat.le_of_lt_succ p.w.isLt).not_gt
  · exact (Nat.le_of_lt_succ p.h.isLt).not_gt

/-- Settles O14: the length is checked by two of the commands that check the dimensions, after those; the
product is exact, so a 32-bit length differs from a greater one. -/
theorem lengthMismatchExactlyWhen : Obligations.LengthMismatchExactlyWhen := by
  refine ⟨fun i c p input => ?_, fun p hbig => ?_⟩
  · rw [outcomeOf_eq_err_iff, operandError_eq_bufferLengthMismatch_iff, invalidDims_eq_true,
      lengthMismatch_eq_true, ← checksPixels_iff]
    constructor
    · rintro ⟨hdims, hpixels, hlen⟩
      exact ⟨hpixels, fun h => hdims ⟨checksDims_of_checksPixels hpixels, h⟩, hlen⟩
    · rintro ⟨hpixels, hdims, hlen⟩
      exact ⟨fun h => hdims h.2, hpixels, hlen⟩
  · exact ((Nat.le_of_lt_succ p.n.isLt).trans_lt hbig).ne

theorem tooLong_packLength_iff (n : Nat) : tooLong (packLength n) = true ↔ 4294639624 < n := by
  rw [tooLong_eq_true, ← Nat.not_le, packLength_fits_iff, Nat.not_le]

theorem tooLong_encodeLength_iff (w h : Nat) :
    tooLong (encodeLength w h) = true ↔ 4294639572 < scanlineLength w h := by
  rw [tooLong_eq_true, ← Nat.not_le, encodeLength_fits_iff, Nat.not_le]

/-- Once the first two checks pass, the length of the output alone decides. -/
theorem outcomeOf_eq_lengthOverflow_iff {i : Instr} {c : Config} {p : Pend} (input : Bytes)
    (hdims : ¬ (checksDims i = true ∧ invalidDims c p.width p.height = true))
    (hlen : ¬ (checksPixels i = true ∧ lengthMismatch p.width p.height p.length = true)) :
    outcomeOf i c p input = .err .lengthOverflow ↔ tooLong (outputLength p i) = true := by
  rw [outcomeOf_eq_err_iff, operandError_eq_lengthOverflow_iff, and_iff_right hdims, and_iff_right hlen]

/-- Settles O15: the first two checks pass by the premises, and each command's length has its own threshold. -/
theorem lengthOverflowExactlyWhen : Obligations.LengthOverflowExactlyWhen := by
  refine fun c p input => ⟨nofun, nofun, ?_, ?_, fun hdims => ?_⟩
  · exact (outcomeOf_eq_lengthOverflow_iff input (by simp) (by simp)).trans (tooLong_packLength_iff _)
  · exact (outcomeOf_eq_lengthOverflow_iff input (by simp) (by simp)).trans (tooLong_chunkLength_iff _)
  · have hgood : ¬ invalidDims c p.width p.height = true := mt (invalidDims_eq_true _ _ _).mp hdims
    refine ⟨?_, fun hlen => ?_⟩
    · exact (outcomeOf_eq_lengthOverflow_iff input (hgood ·.2) (by simp)).trans (tooLong_assembleLength_iff _)
    · have hright : ¬ lengthMismatch p.width p.height p.length = true :=
        mt (lengthMismatch_eq_true _ _ _).mp (not_not_intro hlen)
      exact ⟨(outcomeOf_eq_lengthOverflow_iff input (hgood ·.2) (hright ·.2)).trans (tooLong_eq_true _),
        (outcomeOf_eq_lengthOverflow_iff input (hgood ·.2) (hright ·.2)).trans (tooLong_encodeLength_iff _ _)⟩

/-- No latched word raises code 3 (60_exceptions.md R209). -/
theorem outcomeOfWord_ne_internalInvariantViolation (c : Config) (p : Pend) (input : Bytes) :
    outcomeOfWord c p input ≠ .err .internalInvariantViolation := by
  unfold outcomeOfWord
  split
  · exact mt outcomeOf_eq_err_iff.mp operandError_ne_internalInvariantViolation
  · simp

/-- Settles O16: code 3 is no error of the operands, and an illegal word has code 5. -/
theorem invariantViolationUnreachable : Obligations.InvariantViolationUnreachable := fun c p input =>
  ⟨fun _ => mt outcomeOf_eq_err_iff.mp operandError_ne_internalInvariantViolation,
    outcomeOfWord_ne_internalInvariantViolation c p input⟩

/-- Settles O17: every error is `operandError`'s, whatever the input; the order is that of its checks. -/
theorem errorPriorityByOperands : Obligations.ErrorPriorityByOperands := by
  refine ⟨⟨rfl, rfl, rfl, rfl, rfl⟩, fun c p input h => outcomeOfWord_of_illegal c input h,
    fun i c p a b e h => outcomeOf_eq_err_iff.mpr (outcomeOf_eq_err_iff.mp h),
    fun c p input => ⟨fun hdims => ?_, fun hdims => ?_⟩, fun t a => ⟨?_, ?_, ?_⟩⟩
  · have hbad : invalidDims c p.width p.height = true := (invalidDims_eq_true _ _ _).mpr hdims
    exact ⟨assembleOutcome_of_invalidDims input hbad, filterOutcome_of_invalidDims input hbad,
      encodeOutcome_of_invalidDims input hbad⟩
  · have hgood : ¬ invalidDims c p.width p.height = true := mt (invalidDims_eq_true _ _ _).mp hdims
    exact ⟨fun hlen => ⟨filterOutcome_of_lengthMismatch input hgood hlen,
        encodeOutcome_of_lengthMismatch input hgood hlen⟩,
      fun hlen => ⟨filterOutcome_of_tooLong input hgood hlen, encodeOutcome_of_tooLong input hgood hlen⟩⟩
  · exact encodeOutcome_of_invalidDims a rfl
  · exact filterOutcome_of_tooLong a (not_invalidDims_machine (by simp) (by simp))
      (by simp [Pend.length_eq, Pend.width_eq, Pend.height_eq])
      (by simp [scanlineLength, Pend.width_eq, Pend.height_eq])
  · exact filterOutcome_of_lengthMismatch a (not_invalidDims_machine (by simp) (by simp))
      (by simp [Pend.length_eq, Pend.width_eq, Pend.height_eq])

end Sys2Proof.Machine
end

section
/-! PROOFS. The protocol of 60_exceptions.md step by step: issue (R201), the step that runs the latched
command (R202, R205), what a completion depends on and leaves (R203, R210), FATAL (R209, R216), and that
every command completes (R204). -/

namespace Sys2Proof.Machine

/-! ### Issue (60_exceptions.md R201) -/

theorem access_writeCmd_of_dropped {s : State} (h : s.fatal = true ∨ s.busy = true) (v : Word) :
    access (.writeReg 0x00 32 v) s = .next s := by
  have hdrop : s.issue v = s := if_pos (Bool.or_eq_true_iff.mpr h)
  rw [access_writeReg s v rfl]
  exact congrArg _ hdrop

theorem readWhenIdle_of_busy {s : State} (v : Word) (h : s.busy = true) :
    readWhenIdle s v = (Config.freeValue 32 s.draws, s.countDraw) := if_pos h

theorem readOutByte_of_busy {s : State} (i : Nat) (h : s.busy = true) :
    readOutByte i s = (Config.freeValue 8 s.draws, s.countDraw) := if_pos h

@[simp] theorem State.issued_busy (s : State) (v : Word) : (s.issued v).busy = true :=
  statusBusy_statusIssued s.status

/-- Settles O5: a ready core latches the word and the operands; whatever is read with BUSY = 1 is a free value. -/
theorem issueLatchesOperands : Obligations.IssueLatchesOperands := by
  refine fun s v => ⟨fun h => access_writeCmd_of_dropped h v, fun hfatal hidle => ?_⟩
  have hbusy := s.issued_busy v
  exact ⟨s.issued v, access_writeCmd_of_ready (s.ready_iff.mpr ⟨hidle, hfatal⟩) v, rfl, hbusy,
    statusDone_statusIssued s.status, statusErr_statusIssued s.status,
    (statusFatal_statusIssued s.status).trans hfatal,
    ⟨statusReservedLow_statusIssued s.status, statusReservedHigh_statusIssued s.status⟩, rfl,
    congrArg Prod.fst (readWhenIdle_of_busy _ hbusy), congrArg Prod.fst (readWhenIdle_of_busy _ hbusy),
    fun i => congrArg Prod.fst (readOutByte_of_busy i hbusy)⟩

/-! ### The step that runs the latched command (60_exceptions.md R202, R205) -/

theorem step_of_command {s : State} {i : Instr} (hm : s.mover = .core) (hb : s.busy = true)
    (hi : decode s.pend.op = .command i) : step s = exec i s.passTurn := by
  have hstep : step s = coreStep s.passTurn := by rw [step, hm]
  have hop : s.passTurn.pend.op = encode i := (decode_eq_command_iff _ _).mp hi
  rw [hstep, exec_eq, coreStep_of_busy (s := s.passTurn) hb, outcomeOfWord_of_command _ _ hop]

theorem State.withFetchWord_busy (s : State) (nbits w : Nat) : (s.withFetchWord nbits w).busy = true :=
  s.issued_busy (tableWord nbits w)

/-- A placed command word gives the core the next turn (log 2). -/
theorem State.withFetchWord_mover (s : State) (nbits w : Nat) : (s.withFetchWord nbits w).mover = .core := by
  have hturns : (s.withFetchWord nbits w).turns = if s.turns = [] then [] else .core :: s.turns := rfl
  rw [State.mover, hturns, s.withFetchWord_busy]
  by_cases h : s.turns = [] <;> simp [h]

theorem tableWord_toNat (w : Word) : tableWord 32 w.toNat = w := by
  rw [tableWord, Nat.mod_eq_of_lt w.isLt, BitVec.ofNat_toNat, BitVec.setWidth_eq]

/-- Settles O4: the core's turn is the completion of the latched word, which decodes to its command. -/
theorem stepRunsLatchedCommand : Obligations.StepRunsLatchedCommand := by
  refine ⟨fun _ => rfl, fun s i => step_of_command, fun s i => ?_⟩
  have hop : (s.withFetchWord 32 (encode i).toNat).pend.op = encode i := tableWord_toNat (encode i)
  exact step_of_command (s.withFetchWord_mover _ _) (s.withFetchWord_busy _ _)
    ((decode_eq_command_iff _ _).mpr hop)

/-! ### What a completion depends on and what it leaves (60_exceptions.md R203, R209, R210) -/

/-- Only code 3 sets FATAL. -/
theorem State.complete_fatal (s : State) {o : CmdOutcome} (h : o ≠ .err .internalInvariantViolation) :
    (s.complete o).fatal = s.fatal := by
  cases o with
  | ok r bs => exact statusFatal_statusSucceeded s.status
  | err e =>
    have he : (e == .internalInvariantViolation) = false := beq_eq_false_iff_ne.mpr fun he => h (he ▸ rfl)
    rw [State.complete_err, s.raise_fatal, he, Bool.or_false]

/-- Settles O18: the completion is `State.raise`, and the error is not code 3. -/
theorem failedCommandChangesOnlyResults : Obligations.FailedCommandChangesOnlyResults := by
  intro s e hb he
  have hstep : coreStep s = .next (s.complete (.err e)) := he ▸ coreStep_of_busy hb
  have hne : CmdOutcome.err e ≠ .err .internalInvariantViolation :=
    he ▸ outcomeOfWord_ne_internalInvariantViolation _ _ _
  have hdone := s.raise_completedErr e
  exact ⟨s.raise e, hstep, hdone.err, hdone.resultIs, hdone.outIs, hdone.outLenIs, hdone.busy, hdone.done,
    s.complete_fatal hne, hdone.frame.reserved, hdone.frame.srcBytes, rfl⟩

/-- What a completion writes to ERR, RESULT, OUT_LEN and OUT is a matter of the outcome only. -/
theorem State.complete_results (s s' : State) (o : CmdOutcome) :
    (s.complete o).err = (s'.complete o).err ∧ (s.complete o).result = (s'.complete o).result ∧
      (s.complete o).outLen = (s'.complete o).outLen ∧ (s.complete o).out = (s'.complete o).out := by
  cases o with
  | ok r bs =>
    exact ⟨(statusErr_statusSucceeded s.status).trans (statusErr_statusSucceeded s'.status).symm, rfl, rfl, rfl⟩
  | err e =>
    exact ⟨(statusErr_statusFailed e s.status).trans (statusErr_statusFailed e s'.status).symm, rfl, rfl, rfl⟩

/-- Settles O19: the outcome is the same, for it is a function of PEND and of SRCBUF. -/
theorem completionIsHistoryFree : Obligations.CompletionIsHistoryFree := by
  intro s s' hb hb' hpend hsrc
  have hbuf : s.srcBuf s.pend.length = s'.srcBuf s.pend.length := s.srcBuf_congr s' _ hsrc
  have hstep' := coreStep_of_busy hb'
  rw [← hpend, ← hbuf] at hstep'
  exact ⟨_, _, coreStep_of_busy hb, hstep', s.complete_results s' _⟩

/-! ### Reset (70_reset_and_hazards.md R230) -/

@[simp] theorem State.applyReset_busy (s : State) : s.applyReset.busy = false := by
  rw [State.busy, State.applyReset_status, State.reset_status]
  decide

@[simp] theorem State.applyReset_fatal (s : State) : s.applyReset.fatal = false := by
  rw [State.fatal, State.applyReset_status, State.reset_status]
  decide

/-! ### FATAL (60_exceptions.md R209, R216) -/

/-- Settles O24: no outcome is code 3, issue keeps FATAL and reset clears it. -/
theorem noStepSetsFatal : Obligations.NoStepSetsFatal := by
  intro s t h hfatal
  rcases step_next h with ⟨-, -, rfl⟩ | ⟨-, -, rfl⟩ | ⟨-, h⟩
  · exact (s.passTurn.complete_fatal (outcomeOfWord_ne_internalInvariantViolation _ _ _)).trans hfatal
  · exact hfatal
  · rcases hostStep_core h with ⟨hstatus, -⟩ | ⟨-, -, v, rest, -, rfl⟩ | ⟨rest, -, rfl⟩
    · rw [State.fatal, hstatus]
      exact hfatal
    · exact (statusFatal_statusIssued s.status).trans hfatal
    · exact State.applyReset_fatal _

/-- With STATUS = 0x306 no completion is owed and no issue goes through. -/
theorem flags_of_status_306 {s : State} (h : s.status = 0x00000306#32) : s.busy = false ∧ s.fatal = true := by
  rw [State.busy, State.fatal, h]
  decide

/-- Settles O23: with BUSY = 0 and FATAL = 1 a step changes STATUS by a reset only, and every access but
a CMD write is as ever. -/
theorem fatalHoldsUntilReset : Obligations.FatalHoldsUntilReset := by
  refine ⟨fun s => ?_, fun s h => ?_, fun s v h => access_writeCmd_of_dropped (.inl h) v, fun s t hs h => ?_,
    fun s a v b hs ha => ?_⟩
  · rw [State.complete_err, s.raise_fatal, beq_self_eq_true, Bool.or_true]
  · rw [State.complete_err, State.raise_status, h]
    decide
  · obtain ⟨hidle, hfatal⟩ := flags_of_status_306 hs
    rcases step_status h with hsame | ⟨-, hbusy⟩ | ⟨-, hready, -⟩ | ⟨hm, -, hreset⟩
    · exact .inl (hsame.trans hs)
    · exact absurd hbusy (Bool.eq_false_iff.mp hidle)
    · exact absurd hfatal (Bool.eq_false_iff.mp (s.ready_iff.mp hready).2)
    · exact .inr ⟨hm, hreset⟩
  · obtain ⟨hidle, -⟩ := flags_of_status_306 hs
    obtain ⟨hreads, hidleReads⟩ := idleReadsSeeResults
    obtain ⟨-, hwidth, hheight, hsrcLen, htypeTag⟩ := hreads s
    obtain ⟨hresult, houtLen, hstatus, -⟩ := hidleReads s hidle
    have hfree : s.ownedByCore a = false := by rw [State.ownedByCore, hidle, Bool.false_and]
    exact ⟨access_writeReg s v rfl, access_writeReg s v rfl, access_writeReg s v rfl, access_writeReg s v rfl,
      hs ▸ hstatus, hwidth, hheight, hsrcLen, htypeTag, hresult, houtLen, access_readSrc s ha,
      s.storeSrc a b, access_writeSrc b ha hfree, s.srcByte_storeSrc_same a b⟩

/-! ### Every command completes (60_exceptions.md R204) -/

/-- Within `n` steps a state with BUSY = 0 is reached, unless a step before it stops the run. -/
def State.IdleWithin (n : Nat) (s : State) : Prop :=
  ∃ k, k ≤ n ∧ ((∃ t, runFor k s = .next t ∧ t.busy = false) ∨ (∃ r, runFor k s = .fault r) ∨
    (∃ r, runFor k s = .refused r))

theorem State.IdleWithin.of_idle {s : State} (n : Nat) (h : s.busy = false) : s.IdleWithin n :=
  ⟨0, Nat.zero_le n, .inl ⟨s, rfl, h⟩⟩

/-- A step that does not stop the run is one more step. -/
theorem State.IdleWithin.of_step {n : Nat} {s : State} (h : ∀ t, step s = .next t → t.IdleWithin n) :
    s.IdleWithin (n + 1) := by
  cases hs : step s with
  | next t =>
    obtain ⟨k, hk, hrun⟩ := h t hs
    exact ⟨k + 1, Nat.succ_le_succ hk, by rwa [runFor_succ k hs]⟩
  | fault r => exact ⟨1, Nat.succ_le_succ (Nat.zero_le n), .inr (.inl ⟨r, by rw [runFor, hs]⟩)⟩
  | refused r => exact ⟨1, Nat.succ_le_succ (Nat.zero_le n), .inr (.inr ⟨r, by rw [runFor, hs]⟩)⟩

/-- While BUSY = 1 the host moves only by a turn of its own (log 1). -/
theorem State.turns_of_host_of_busy {s : State} (hm : s.mover = .host) (hb : s.busy = true) :
    s.turns = .host :: s.turns.tail := by
  cases hturns : s.turns with
  | nil => simp [State.mover, hturns, hb] at hm
  | cons a rest =>
    obtain rfl : a = .host := by simpa [State.mover, hturns] using hm
    rfl

/-- A step from a state with BUSY = 1 ends the command or uses up a turn of the host. -/
theorem step_of_busy_next {s t : State} (hb : s.busy = true) (h : step s = .next t) :
    t.busy = false ∨ s.turns = .host :: t.turns := by
  rcases step_next h with ⟨-, -, rfl⟩ | ⟨-, hidle, -⟩ | ⟨hm, h⟩
  · exact .inl (State.complete_busy _ _)
  · exact absurd hb (Bool.eq_false_iff.mp hidle)
  · rcases hostStep_core h with ⟨-, -, -, -, -, -, -, -, hturns, -⟩ | ⟨-, hidle, -⟩ | ⟨rest, -, rfl⟩
    · rw [hturns]
      exact .inr (State.turns_of_host_of_busy hm hb)
    · exact absurd hb (Bool.eq_false_iff.mp hidle)
    · exact .inl (State.applyReset_busy _)

/-- Only the host's turns listed can delay the completion. -/
theorem State.idleWithin_turns (s : State) : s.IdleWithin (s.turns.length + 1) := by
  cases hb : s.busy with
  | false => exact .of_idle _ hb
  | true =>
    refine .of_step fun t ht => ?_
    rcases step_of_busy_next hb ht with hidle | hhost
    · exact .of_idle _ hidle
    · rw [hhost]
      exact t.idleWithin_turns
termination_by s.turns.length
decreasing_by simp [hhost]

/-- Settles O37: a turn of the core completes the command, and with no turns left the core moves. -/
theorem everyCommandCompletes : Obligations.EveryCommandCompletes :=
  ⟨fun _ hb => ⟨_, coreStep_of_busy hb, State.complete_busy _ _, State.complete_done _ _⟩,
    fun s _ => s.idleWithin_turns⟩

end Sys2Proof.Machine
end

section
/-! PROOFS. Several cores on one platform (60_exceptions.md R221). -/

namespace Sys2Proof.Machine

/-- A step of a core that exists is its own step and replaces it alone. -/
theorem Platform.step_next {p p' : Platform} {k : Nat} (h : Platform.step k p = .next p') :
    (p[k]? = none ∧ p' = p) ∨ ∃ s t, p[k]? = some s ∧ Machine.step s = .next t ∧ p' = p.set k t := by
  unfold Platform.step at h
  split at h
  case h_1 hk => cases h; exact .inl ⟨hk, rfl⟩
  case h_2 s hk =>
    split at h
    case h_1 t ht => cases h; exact .inr ⟨s, t, hk, ht, rfl⟩
    all_goals cases h

theorem Platform.step_of_none {p : Platform} {k : Nat} (hk : p[k]? = none) : Platform.step k p = .next p := by
  rw [Platform.step, hk]

theorem Platform.step_of_some {p : Platform} {k : Nat} {s t : State} (hk : p[k]? = some s)
    (ht : Machine.step s = .next t) : Platform.step k p = .next (p.set k t) := by
  simp only [Platform.step, hk, ht]

/-- Settles O60: a step of core `k` replaces that core alone, by its own next state. -/
theorem coresShareNothing : Obligations.CoresShareNothing := by
  refine ⟨fun p p' k j h hj => ?_, fun p q p' k hpq h => ?_⟩
  · rcases Platform.step_next h with ⟨-, rfl⟩ | ⟨s, t, -, -, rfl⟩
    · rfl
    · exact List.getElem?_set_ne hj.symm
  · rcases Platform.step_next h with ⟨hk, rfl⟩ | ⟨s, t, hk, ht, rfl⟩
    · exact ⟨q, Platform.step_of_none (hpq ▸ hk), hpq.symm⟩
    · refine ⟨q.set k t, Platform.step_of_some (hpq ▸ hk) ht, ?_⟩
      rw [List.getElem?_set_self', List.getElem?_set_self', hpq]

end Sys2Proof.Machine
end

section
/-! PROOFS. Reset and hazards (70_reset_and_hazards.md): what reset leaves (R230), how a command and FATAL
end (R242), and what the host may touch while BUSY = 1 (R235 to R237) and finds afterwards (R238). -/

namespace Sys2Proof.Machine

/-! ### Operand writes while BUSY = 1 (70_reset_and_hazards.md R237) -/

section Operands

variable {o : Nat} (ho : o = 0x08 ∨ o = 0x0C ∨ o = 0x10 ∨ o = 0x14)
include ho

/-- A write to an operand register is read back, and nothing a completion depends on changes. -/
theorem writeRegister_operand (v : Word) (s : State) :
    (readRegister o (writeRegister o v s)).1 = v ∧ (writeRegister o v s).status = s.status ∧
      (writeRegister o v s).pend = s.pend ∧ (writeRegister o v s).src = s.src ∧
      (writeRegister o v s).resets = s.resets := by
  rcases ho with rfl | rfl | rfl | rfl
  all_goals exact ⟨rfl, rfl, rfl, rfl, rfl⟩

theorem readRegister_operand_complete (s : State) (c : CmdOutcome) :
    (readRegister o (s.complete c)).1 = (readRegister o s).1 := by
  rcases ho with rfl | rfl | rfl | rfl
  · exact s.complete_width c
  · exact s.complete_height c
  · exact s.complete_srcLen c
  · exact s.complete_typeTag c

theorem access_writeReg_operand (s : State) (v : Word) :
    access (.writeReg o 32 v) s = .next (writeRegister o v s) :=
  access_writeReg s v (by omega)

end Operands

@[simp] theorem State.complete_latch (s : State) (o : CmdOutcome) (w : Word) :
    (s.complete o).latch w = s.latch w := by
  cases o <;> rfl

/-- What a completion leaves in STATUS is a matter of STATUS before it and of the outcome. -/
theorem State.complete_status_congr {s u : State} (h : u.status = s.status) (o : CmdOutcome) :
    (u.complete o).status = (s.complete o).status := by
  cases o with
  | ok r bs => exact congrArg statusSucceeded h
  | err e => exact congrArg (statusFailed e) h

/-- Settles O20: the write leaves alone what the completion depends on, and the completion the operands. -/
theorem operandWriteLeavesCommandAlone : Obligations.OperandWriteLeavesCommandAlone := by
  intro s v o hbusy ho
  obtain ⟨hread, hstatus, hpend, hsrc, hresets⟩ := writeRegister_operand ho v s
  generalize hu : writeRegister o v s = u at hread hstatus hpend hsrc hresets
  have hbusy' : u.busy = true := by rw [State.busy, hstatus]; exact hbusy
  have hbuf : u.srcBuf s.pend.length = s.srcBuf s.pend.length :=
    u.srcBuf_congr s _ fun a _ => u.srcByte_congr s a hsrc hresets
  have hstep := coreStep_of_busy hbusy'
  rw [hpend, hbuf] at hstep
  obtain ⟨-, hresult, houtLen, hout⟩ := u.complete_results s
    (outcomeOfWord Config.machine s.pend (s.srcBuf s.pend.length))
  exact ⟨u, _, _, hu ▸ access_writeReg_operand ho s v, hread, hbusy', hstep, coreStep_of_busy hbusy,
    State.complete_status_congr hstatus _, hresult, houtLen, hout,
    (readRegister_operand_complete ho u _).trans hread, u.complete_latch _⟩

/-! ### How a command and FATAL end (70_reset_and_hazards.md R242) -/

theorem access_reset (s : State) : access .reset s = .next s.applyReset := rfl

theorem coreStep_of_idle {s : State} (h : s.busy = false) : coreStep s = .next s := by
  rw [coreStep, h]
  rfl

/-- No step but a reset changes FATAL: no outcome is code 3, and issue keeps it. -/
theorem step_fatal {s t : State} (h : step s = .next t) :
    t.fatal = s.fatal ∨ (s.mover = .host ∧ ∃ rest, s.program = .access .reset :: rest) := by
  rcases step_next h with ⟨-, -, rfl⟩ | ⟨-, -, rfl⟩ | ⟨hm, h⟩
  · exact .inl (s.passTurn.complete_fatal (outcomeOfWord_ne_internalInvariantViolation _ _ _))
  · exact .inl rfl
  · rcases hostStep_core h with ⟨hstatus, -⟩ | ⟨-, -, v, rest, -, rfl⟩ | ⟨rest, hp, -⟩
    · exact .inl (congrArg statusFatal hstatus)
    · exact .inl (statusFatal_statusIssued s.status)
    · exact .inr ⟨hm, rest, hp⟩

/-- Settles O22: a step with BUSY = 1 is no issue, so STATUS stays but for a completion and a reset. -/
theorem onlyCompletionOrResetEndsCommand : Obligations.OnlyCompletionOrResetEndsCommand := by
  refine ⟨fun s _ => ⟨s.applyReset, access_reset s, rfl, rfl, coreStep_of_idle s.applyReset_busy⟩,
    fun s t h hbusy hidle => ?_, fun s t h hfatal hclear => ?_⟩
  · rcases step_status h with hsame | ⟨hm, -⟩ | ⟨-, hready, -⟩ | ⟨hm, -, hreset⟩
    · rw [State.busy, hsame] at hidle
      exact absurd hbusy (Bool.eq_false_iff.mp hidle)
    · exact .inl hm
    · exact absurd hbusy (Bool.eq_false_iff.mp (s.ready_iff.mp hready).1)
    · exact .inr ⟨hm, hreset⟩
  · exact (step_fatal h).resolve_left fun hsame => by simp [hsame, hfatal] at hclear

/-! ### SRC while BUSY = 1 (70_reset_and_hazards.md R235) -/

theorem State.ownedByCore_iff (s : State) (x : Nat) :
    s.ownedByCore x = true ↔ s.busy = true ∧ x < s.pend.length := by
  rw [State.ownedByCore, Bool.and_eq_true, decide_eq_true_iff]

theorem access_writeSrc_of_owned {x : Nat} {s : State} (v : Byte) (hx : x < Config.srcSpace)
    (ho : s.ownedByCore x = true) : access (.writeSrc x 8 v) s = .fault .srcOwnedByCore := by
  have hspace : ¬ Config.srcSpace ≤ x := Nat.not_le.mpr hx
  simp [access, Access.wellFormed, hspace, ho]

/-- A store changes SRCBUF at its own address, where it lies in it. -/
theorem State.srcBuf_storeSrc (s : State) (x : Nat) (v : Byte) (n : Nat) :
    (s.storeSrc x v).srcBuf n = (s.srcBuf n).set x v := by
  refine List.ext_getElem (by simp) fun a ha _ => ?_
  rw [State.getElem_srcBuf, List.getElem_set, State.getElem_srcBuf]
  split
  case isTrue h => exact h ▸ s.srcByte_storeSrc_same x v
  case isFalse h => exact s.srcByte_storeSrc_other v (Ne.symm h)

/-- Settles O31: below `PEND.n` with BUSY = 1 the byte is owned; any other write is `storeSrc`. -/
theorem srcBelongsToCoreWhileBusy : Obligations.SrcBelongsToCoreWhileBusy := by
  refine fun s x v hx => ⟨fun hbusy hlt => access_writeSrc_of_owned v hx ((s.ownedByCore_iff x).mpr ⟨hbusy, hlt⟩),
    fun hfree => ?_, access_readSrc s hx⟩
  have hnot : s.ownedByCore x = false := by
    rw [Bool.eq_false_iff, Ne, s.ownedByCore_iff]
    rintro ⟨hbusy, hlt⟩
    rcases hfree with hidle | hge
    · exact absurd hbusy (Bool.eq_false_iff.mp hidle)
    · exact absurd hlt (Nat.not_lt.mpr hge)
  refine ⟨s.storeSrc x v, access_writeSrc v hx hnot, ?_⟩
  rw [s.srcBuf_storeSrc]
  split
  case isTrue => rfl
  case isFalse h => exact List.set_eq_of_length_le (by simpa using h)

/-! ### RESULT, OUT_LEN and OUT (70_reset_and_hazards.md R236, R238) -/

/-- Settles O36: with BUSY = 0 no completion is due, and of what the host can do only reset writes the results. -/
theorem resultsLiveUntilNextIssue : Obligations.ResultsLiveUntilNextIssue := by
  intro s t hidle h
  rcases step_next h with ⟨-, hbusy, -⟩ | ⟨-, -, rfl⟩ | ⟨hm, h⟩
  · exact absurd hbusy (Bool.eq_false_iff.mp hidle)
  · exact .inl ⟨rfl, rfl, rfl⟩
  · rcases hostStep_core h with ⟨-, -, -, hresult, houtLen, hout, -⟩ | ⟨-, -, v, rest, -, rfl⟩ | ⟨rest, hp, -⟩
    · exact .inl ⟨hresult, houtLen, hout⟩
    · exact .inl ⟨rfl, rfl, rfl⟩
    · exact .inr ⟨hm, rest, hp⟩

theorem access_readOut (s : State) (i : Nat) :
    access (.readOut i 8) s = .next ((readOutByte i s).2.pushReading (.byte (readOutByte i s).1)) := rfl

/-- Settles O34: the reads of RESULT, OUT_LEN and OUT draw a free value, and that of STATUS does not. -/
theorem resultsUnspecifiedWhileBusy : Obligations.ResultsUnspecifiedWhileBusy := by
  refine fun s hbusy => ⟨?_, fun i => ?_, access_readReg s rfl⟩
  · intro o ho
    have hread : readRegister o s = (Config.freeValue 32 s.draws, s.countDraw) := by
      rcases ho with rfl | rfl
      · exact readWhenIdle_of_busy s.result hbusy
      · exact readWhenIdle_of_busy s.outLen hbusy
    rw [access_readReg s (by omega), hread]
    rfl
  · rw [access_readOut, readOutByte_of_busy i hbusy]
    rfl

/-! ### Reset (70_reset_and_hazards.md R230, R232) -/

/-- After reset no SRC byte is known (log 4). -/
theorem State.srcByte_applyReset (s : State) (a : Nat) :
    s.applyReset.srcByte a = Config.unwrittenSrc (s.resets + 1) a := rfl

/-- Settles O21: reset is `applyReset`, which takes the registers from the reset state and keeps the host's side. -/
theorem resetClearsTheCore : Obligations.ResetClearsTheCore := fun s =>
  ⟨s.applyReset, access_reset s, rfl, rfl, rfl, rfl, rfl, rfl, rfl, rfl, s.applyReset_pend, s.applyReset_units,
    s.srcByte_applyReset, s.applyReset_program, s.applyReset_readings, s.applyReset_turns⟩

end Sys2Proof.Machine
end
